-- ==== Sys2Proof/Word.lean ====
section
/-! DEFINITION. The widths of the engine's data (00_scope R10, R11; 10_state R26). -/
namespace Sys2Proof

/-- A byte is 8 bits (R10). -/
abbrev Byte := BitVec 8

/-- A finite sequence of bytes, index 0 first on the wire (R11). -/
abbrev ByteString := List Byte

/-- A 16-bit value: CRCREG, a checksum, a `U16` raw value. -/
abbrev Word16 := BitVec 16

/-- A 32-bit value: the raw value of an accumulator (R122). -/
abbrev Word32 := BitVec 32

/-- A correlation key, which is also a command's code (R26). -/
abbrev Key := BitVec 16

/-- The operand of SES.CONNECT: opaque, handed on unchanged (R152). DESIGN CHOICE (log 14): an
uninterpreted byte string; no definition looks inside it. Safe. -/
abbrev Address := ByteString

end Sys2Proof
end

