-- ==== Sys2Proof/Config.lean ====
section
/-! DEFINITION. What is fixed for a whole run and is not state (10_state R40): the constants of
00_scope R7, the schema rows of 30_encoding R80, and the open parameters of 00_scope R8 as ONE
constant without a body, so that a claim holds for every value the spec admits (log 16). -/
namespace Sys2Proof

/-! ## Constants whose value the source fixes (R7) -/

/-- `CRC_POLY`. -/
def crcPoly : Word16 := 0x8005#16
/-- `CRC_INIT`. -/
def crcInit : Word16 := 0xFFFF#16
/-- `TRAILER_LEN`. -/
def trailerLen : Nat := 2
/-- `DISC_OFFSET`. -/
def discOffset : Nat := 2
/-- Where the `data` region of an inbound frame begins (30_encoding R72). -/
def dataOffset : Nat := 3
/-- `DISC_SETTINGS`. -/
def discSettings : Byte := 0x3C#8
/-- `DISC_LIMITS`. -/
def discLimits : Byte := 0x1C#8
/-- `N_SETTINGS_FIELDS`. -/
def nSettingsFields : Nat := 18
/-- `N_LIMITS_FIELDS`. -/
def nLimitsFields : Nat := 12
/-- `ACC_HI_B3_DELTA`. -/
def accHiB3Delta : Nat := 4
/-- `ACC_HI_B2_DELTA`. -/
def accHiB2Delta : Nat := 5
/-- `T_ATTEMPT_MS`. -/
def tAttemptMs : Nat := 1000
/-- `MAX_ATTEMPTS`. -/
def maxAttempts : Nat := 3
/-- `KEY_LEN` (R8, decided). -/
def keyLen : Nat := 2
/-- `V_MAX`; every setter's lower bound (`V_MIN`, `I_MIN`, `BL_MIN`, `BZ_MIN`, `TO_MIN`) is 0. -/
def vMax : Nat := 125
/-- `I_MAX`. -/
def iMax : Nat := 22
/-- `BL_MAX`. -/
def blMax : Nat := 5
/-- `BZ_MAX`. -/
def bzMax : Nat := 1
/-- `TO_MAX`. -/
def toMax : Nat := 100000

/-! ## Schemas (30_encoding R78 to R83) -/

/-- The two field kinds (R78). -/
inductive FieldKind where
  /-- 16-bit big-endian integer. -/
  | u16
  /-- 32-bit accumulator with reordered halves. -/
  | acc32
deriving DecidableEq, Repr

/-- A schema row (R80). -/
structure SchemaRow where
  name : String
  kind : FieldKind
  off : Nat
  scale : Nat
  signed : Bool
deriving DecidableEq, Repr

/-- A field schema: its rows in row order (R37 (b)). -/
abbrev Schema := List SchemaRow

/-- The set of scales (R79). -/
def scales : List Nat := [1, 10, 100, 1000]

/-- A row's footprint (R78): how long a body must be for the row to be read. -/
def SchemaRow.footprint (r : SchemaRow) : Nat :=
  match r.kind with
  | .u16 => r.off + 2
  | .acc32 => r.off + 6

/-- `REQ_LEN(S)`: the largest footprint (R81). -/
def Schema.reqLen (S : Schema) : Nat := S.foldr (fun r n => max r.footprint n) 0

/-- `FIELDS(S)` (R81). -/
def Schema.fields (S : Schema) : List String := S.map (·.name)

/-- A schema is well formed (R81): distinct names, scales of R79, nothing signed. -/
def Schema.ok (S : Schema) : Bool :=
  decide S.fields.Nodup && S.all (fun r => scales.contains r.scale && !r.signed)

/-- How many rows have this kind and scale. -/
def Schema.count (S : Schema) (k : FieldKind) (scale : Nat) : Nat :=
  S.countP (fun r => r.kind == k && r.scale == scale)

/-- Every row stands in the `data` region of an inbound frame (R72): behind the key and the discriminator, in
the offsets whose meaning a schema gives (20_memory R51). -/
def Schema.inData (S : Schema) : Bool := S.all (fun r => decide (dataOffset ≤ r.off))

/-- What R82 fixes of `SETTINGS_SCHEMA`: 18 rows, exactly two of kind `ACC32`, both with scale 1000;
`U16` rows have scale 100, 10 or 1 (R79).
DEDUCED (log 16): clause (d) is read as the least numbers of `U16` rows it names: a voltage and a
current at scale 100; a power and a temperature at scale 10; a timer, lock, protection, output state,
backlight, timeout and product id at scale 1. Safe: fewer constraints admit more schemas. -/
def Schema.okSettings (S : Schema) : Bool :=
  S.ok && S.length == nSettingsFields &&
  S.countP (fun r => r.kind == .acc32) == 2 && S.count .acc32 1000 == 2 &&
  S.all (fun r => r.kind == .acc32 || r.scale != 1000) &&
  decide (2 ≤ S.count .u16 100) && decide (2 ≤ S.count .u16 10) && decide (7 ≤ S.count .u16 1)

/-- What R83 fixes of `LIMITS_SCHEMA`: 12 rows, exactly two of kind `ACC32`, one with scale 1000 and
one with scale 100; `U16` rows have scale 100, 10 or 1. -/
def Schema.okLimits (S : Schema) : Bool :=
  S.ok && S.length == nLimitsFields &&
  S.countP (fun r => r.kind == .acc32) == 2 && S.count .acc32 1000 == 1 && S.count .acc32 100 == 1 &&
  S.all (fun r => r.kind == .acc32 || r.scale != 1000)

/-- The reference instance `REF_SETTINGS` (R84): the spec's own, NOT the device's layout. It shows
that the constraints of R82 can be met, and the tests use it. -/
def refSettings : Schema :=
  [⟨"set_voltage", .u16, 3, 100, false⟩, ⟨"set_current", .u16, 5, 100, false⟩,
   ⟨"out_voltage", .u16, 7, 100, false⟩, ⟨"out_current", .u16, 9, 100, false⟩,
   ⟨"out_power", .u16, 11, 10, false⟩, ⟨"in_voltage", .u16, 13, 100, false⟩,
   ⟨"ah_out", .acc32, 15, 1000, false⟩, ⟨"wh_out", .acc32, 21, 1000, false⟩,
   ⟨"timer_hours", .u16, 27, 1, false⟩, ⟨"timer_minutes", .u16, 29, 1, false⟩,
   ⟨"temp_internal", .u16, 31, 10, false⟩, ⟨"temp_external", .u16, 33, 10, false⟩,
   ⟨"lock", .u16, 35, 1, false⟩, ⟨"protection", .u16, 37, 1, false⟩,
   ⟨"output_state", .u16, 39, 1, false⟩, ⟨"backlight", .u16, 41, 1, false⟩,
   ⟨"timeout", .u16, 43, 1, false⟩, ⟨"product_id", .u16, 45, 1, false⟩]

/-- The reference instance `REF_LIMITS` (R85): the spec's own, NOT the device's layout. -/
def refLimits : Schema :=
  [⟨"lim_set_voltage", .u16, 3, 100, false⟩, ⟨"lim_set_current", .u16, 5, 100, false⟩,
   ⟨"lim_low_voltage", .u16, 7, 100, false⟩, ⟨"lim_over_voltage", .u16, 9, 100, false⟩,
   ⟨"lim_over_current", .u16, 11, 100, false⟩, ⟨"lim_over_power", .u16, 13, 10, false⟩,
   ⟨"lim_timer_hours", .u16, 15, 1, false⟩, ⟨"lim_timer_minutes", .u16, 17, 1, false⟩,
   ⟨"lim_ah", .acc32, 19, 1000, false⟩, ⟨"lim_wh", .acc32, 25, 100, false⟩,
   ⟨"lim_over_temp", .u16, 31, 10, false⟩, ⟨"lim_power_on_state", .u16, 33, 1, false⟩]

/-! ## Command templates (43_command_builders R191)

The field defaults below only show that such a value exists (Lean asks for one before it accepts a
constant without a body); nothing can be proved of `Config.params` from them. -/

/-- The template of a builder without operand: a fixed code and payload (R191). -/
structure PlainTemplate where
  code : Key := 0#16
  payload : ByteString := []
deriving Inhabited

/-- The template of a setter whose user-unit range is `0 .. hi` (R191, R193): its scale `S_x`, a code
that does not depend on the operand (R191 (b)), and a payload that is injective on the clamped range
(R191 (a)). DEDUCED (log 17): the scale is a positive natural number; the clamped operand, never
negative (R138 (c)), is a natural number. Safe. -/
structure SetterTemplate (hi : Nat) where
  scale : Nat := 1
  scale_pos : 0 < scale := by decide
  code : Key := 0#16
  payload : Nat → ByteString := fun c => List.replicate c 0#8
  payload_inj : ∀ a b, a ≤ hi * scale → b ≤ hi * scale → payload a = payload b → a = b := by
    intro a b _ _ h
    simpa using congrArg List.length h
deriving Inhabited

/-- `MAX_FRAME_LEN` (R8): OPEN, with the spec's default, unbounded (`none`). The operations that build
or accept a frame take it as an argument; with a bound set, a longer frame is refused (R58, R126, U10).
DESIGN CHOICE (log 15): the value is the spec's default. -/
def Config.maxFrameLen : Option Nat := none

/-- The other open parameters of R8, which have no default. Of a schema's offsets only what the frame format
says is known: the fields stand at offset 3 and beyond (R72, 20_memory R51), so the key does not enter a
report (41_frame_codec R128). DEDUCED (log 30): these rules bound the offsets of both schemas, beside R82
and R83. Unsafe for a device with a field below offset 3. -/
structure Params where
  /-- `T_BACKOFF_MS`: any natural number (R8, U1). -/
  backoffMs : Nat
  settings : Schema := refSettings
  settings_ok : settings.okSettings = true := by decide
  settings_inData : settings.inData = true := by decide
  limits : Schema := refLimits
  limits_ok : limits.okLimits = true := by decide
  limits_inData : limits.inData = true := by decide
  status : PlainTemplate
  readLimits : PlainTemplate
  setv : SetterTemplate vMax
  seti : SetterTemplate iMax
  setbl : SetterTemplate blMax
  setbz : SetterTemplate bzMax
  setto : SetterTemplate toMax
  on : PlainTemplate
  off : PlainTemplate
  restart : PlainTemplate
deriving Inhabited

/-- The open parameters of this engine: any value that meets the constraints (R8, R40; log 16). -/
opaque Config.params : Params

/-! ## Free values -/

/-- What QRY.START number `n` writes to `QBACKOFF_UNTIL`: R31 says that it writes all the query registers
and no rule states this value. FREE VALUE (log 27). -/
opaque Config.freeBackoffUntil : Nat → Nat

/-- The error outcomes (60_exceptions R211). -/
inductive Machine.Err where
  /-- 1 `E_CRC`, the source's CrcMismatch (R212). -/
  | crc
  /-- 2 `E_TIMEOUT` (R213). -/
  | timeout
  /-- 3 `E_TRANSPORT` (R214). -/
  | transport
  /-- 4 `E_UNEXPECTED` (R215). -/
  | unexpected
  /-- 5 `E_CONN` (R216). -/
  | conn
  /-- 6 `E_CMDFAIL` (R217). -/
  | cmdFail
  /-- 7 `E_BUSY` (R218). -/
  | busy
  /-- 8 `E_NOTREADY` (R218). -/
  | notReady
  /-- 9 `E_BADOP` (R218). -/
  | badOp
deriving DecidableEq, Repr, Inhabited

/-- An outcome that `QLASTERR` may hold: "`QLASTERR` is therefore never `E_CRC`" (90_conflicts C6, R224). -/
structure Machine.LastErr where
  err : Machine.Err := .timeout
  ne_crc : err ≠ .crc := by decide
deriving Inhabited

/-- What QRY.START number `n` writes to `QLASTERR`, as for `QBACKOFF_UNTIL`: any outcome of R211 but E_CRC
(C6). FREE VALUE (log 27). -/
opaque Config.freeLastErr : Nat → Machine.LastErr

end Sys2Proof
end

