-- ==== Sys2Proof/Syntax.lean ====
section
/-! DEFINITION. The operations of the engine (00_scope R9, 30_encoding R88), one constructor per row of
spec/opcode_table.json in the table's order, and the form in which an agent presents one. -/
namespace Sys2Proof

/-- An operation. The comment of each constructor is its mnemonic. -/
inductive Instr where
  /-- CRC.GEN (R105) -/
  | crcGen (src : ByteString)
  /-- CRC.VFY (R106) -/
  | crcVfy (frame : ByteString)
  /-- FLD.U16 (R121) -/
  | fldU16 (buf : ByteString) (off : Nat)
  /-- FLD.ACC32 (R122) -/
  | fldAcc32 (buf : ByteString) (off : Nat)
  /-- FRM.ENC (R126) -/
  | frmEnc (code : Key) (payload : ByteString)
  /-- FRM.DEC (R127) -/
  | frmDec (frame : ByteString)
  /-- FRM.DEC.SET (R128): FRM.DEC selected with frame[2] = 0x3C -/
  | frmDecSet (frame : ByteString)
  /-- FRM.DEC.LIM (R129): FRM.DEC selected with frame[2] = 0x1C -/
  | frmDecLim (frame : ByteString)
  /-- FRM.DEC.RAW (R130): FRM.DEC selected with any other frame[2], or none -/
  | frmDecRaw (frame : ByteString)
  /-- SES.CONNECT (R152) -/
  | sesConnect (address : Address)
  /-- SES.SUBSCRIBE (R155) -/
  | sesSubscribe
  /-- COR.WRITE (R156) -/
  | corWrite (code : Key) (bytes : ByteString)
  /-- QRY.START (R170) -/
  | qryStart (code : Key) (frame : ByteString)
  /-- COR.RX (R161) -/
  | corRx (bytes : ByteString)
  /-- COR.EXPIRE (R168) -/
  | corExpire (key : Key)
  /-- QRY.RETRY (R174) -/
  | qryRetry
  /-- CMD.STATUS (R194) -/
  | cmdStatus
  /-- CMD.LIMITS (R195) -/
  | cmdLimits
  /-- CMD.SETV (R196) -/
  | cmdSetv (v : Int)
  /-- CMD.SETI (R197) -/
  | cmdSeti (v : Int)
  /-- CMD.SETBL (R198) -/
  | cmdSetbl (v : Int)
  /-- CMD.SETBZ (R199) -/
  | cmdSetbz (v : Int)
  /-- CMD.SETTO (R200) -/
  | cmdSetto (v : Int)
  /-- CMD.ON (R201) -/
  | cmdOn
  /-- CMD.OFF (R202) -/
  | cmdOff
  /-- CMD.RESTART (R203) -/
  | cmdRestart
deriving DecidableEq, Repr

/-- Who causes a step (00_scope R6; the agent column of 30_encoding R88). `internal` is none of R6's
agents: it is the engine itself, using one operation inside another. DESIGN CHOICE (log 29): the pure
operations of R88's internal entries may also be taken as a turn of their own, which shows their result
and changes no state of the spec. Safe. -/
inductive Agent where
  | host
  | internal
  | inbound
  | timer
deriving DecidableEq, Repr

/-- The two select formats of 30_encoding R88. -/
inductive Format where
  /-- `OP`: selected by the 8-bit OPSEL. -/
  | op
  /-- `OP+RPY`: selected by the composite `(OPSEL << 8) | frame[2]`. -/
  | opRpy
deriving DecidableEq, Repr

/-- What an agent presents on its port: the select code and the operands (R88). DESIGN CHOICE (log 1):
each kind of operand (byte string, 16-bit code or key, natural offset, signed integer) has a lane of
its own; an operation reads the lanes its row of R88 names and no other. Safe. -/
structure Request where
  format : Format
  opsel : Byte
  bytes : ByteString
  code : Key
  off : Nat
  v : Int
deriving DecidableEq, Repr

end Sys2Proof
end

