-- ==== Sys2Proof/WellFormed.lean ====
section
/-! DEFINITION. When an operation's operands meet what its rule asks of them: the footprint of a field
read (R121, R122), and for an arm of FRM.DEC the byte frame[2] that selects it (30_encoding R88). -/
namespace Sys2Proof

/-- The well-formed operations. Operations not named in a rule's precondition take any operand. -/
def Instr.wellFormed : Instr → Bool
  | .fldU16 buf off => decide (off + 2 ≤ buf.length)
  | .fldAcc32 buf off => decide (off + 6 ≤ buf.length)
  | .frmDecSet frame => frame[discOffset]? == some discSettings
  | .frmDecLim frame => frame[discOffset]? == some discLimits
  | .frmDecRaw frame =>
    frame[discOffset]? != some discSettings && frame[discOffset]? != some discLimits
  | .crcGen _ | .crcVfy _ | .frmEnc _ _ | .frmDec _ | .sesConnect _ | .sesSubscribe => true
  | .corWrite _ _ | .qryStart _ _ | .corRx _ | .corExpire _ | .qryRetry => true
  | .cmdStatus | .cmdLimits | .cmdSetv _ | .cmdSeti _ | .cmdSetbl _ | .cmdSetbz _ | .cmdSetto _
  | .cmdOn | .cmdOff | .cmdRestart => true

end Sys2Proof
end

