-- ==== Sys2Proof/Decode.lean ====
section
/-! DEFINITION. From what an agent presents to an operation and back: the select codes of 30_encoding
R88 as a table, the decoder (R86 (f): a code that is not listed is `E_BADOP`), which agents may cause
an operation, and the encoder. -/
namespace Sys2Proof

/-- Why a request names no operation. -/
inductive DecodeError where
  /-- The select code is not in the table of R88 (`E_BADOP`, R211). -/
  | badOp
deriving DecidableEq, Repr

/-- A row of the select table: a request of this format whose select word agrees with `matchBits` on
the bits of `mask` names the operation `make` builds from the operand lanes. -/
structure OpRow where
  mnemonic : String
  format : Format
  matchBits : Nat
  mask : Nat
  make : Request → Instr

/-- The table of R88 with the three arms of FRM.DEC. The arms' rows stand in order of priority: RAW
takes whatever SET and LIM do not (R88). -/
def opcodeTable : List OpRow :=
  [⟨"CRC.GEN", .op, 0x01, 0xFF, fun r => .crcGen r.bytes⟩,
   ⟨"CRC.VFY", .op, 0x02, 0xFF, fun r => .crcVfy r.bytes⟩,
   ⟨"FLD.U16", .op, 0x08, 0xFF, fun r => .fldU16 r.bytes r.off⟩,
   ⟨"FLD.ACC32", .op, 0x09, 0xFF, fun r => .fldAcc32 r.bytes r.off⟩,
   ⟨"FRM.ENC", .op, 0x10, 0xFF, fun r => .frmEnc r.code r.bytes⟩,
   ⟨"FRM.DEC", .op, 0x11, 0xFF, fun r => .frmDec r.bytes⟩,
   ⟨"FRM.DEC.SET", .opRpy, 0x113C, 0xFFFF, fun r => .frmDecSet r.bytes⟩,
   ⟨"FRM.DEC.LIM", .opRpy, 0x111C, 0xFFFF, fun r => .frmDecLim r.bytes⟩,
   ⟨"FRM.DEC.RAW", .opRpy, 0x1100, 0xFF00, fun r => .frmDecRaw r.bytes⟩,
   ⟨"SES.CONNECT", .op, 0x20, 0xFF, fun r => .sesConnect r.bytes⟩,
   ⟨"SES.SUBSCRIBE", .op, 0x21, 0xFF, fun _ => .sesSubscribe⟩,
   ⟨"COR.WRITE", .op, 0x30, 0xFF, fun r => .corWrite r.code r.bytes⟩,
   ⟨"QRY.START", .op, 0x38, 0xFF, fun r => .qryStart r.code r.bytes⟩,
   ⟨"COR.RX", .op, 0x40, 0xFF, fun r => .corRx r.bytes⟩,
   ⟨"COR.EXPIRE", .op, 0x41, 0xFF, fun r => .corExpire r.code⟩,
   ⟨"QRY.RETRY", .op, 0x42, 0xFF, fun _ => .qryRetry⟩,
   ⟨"CMD.STATUS", .op, 0x50, 0xFF, fun _ => .cmdStatus⟩,
   ⟨"CMD.LIMITS", .op, 0x51, 0xFF, fun _ => .cmdLimits⟩,
   ⟨"CMD.SETV", .op, 0x52, 0xFF, fun r => .cmdSetv r.v⟩,
   ⟨"CMD.SETI", .op, 0x53, 0xFF, fun r => .cmdSeti r.v⟩,
   ⟨"CMD.SETBL", .op, 0x54, 0xFF, fun r => .cmdSetbl r.v⟩,
   ⟨"CMD.SETBZ", .op, 0x55, 0xFF, fun r => .cmdSetbz r.v⟩,
   ⟨"CMD.SETTO", .op, 0x56, 0xFF, fun r => .cmdSetto r.v⟩,
   ⟨"CMD.ON", .op, 0x57, 0xFF, fun _ => .cmdOn⟩,
   ⟨"CMD.OFF", .op, 0x58, 0xFF, fun _ => .cmdOff⟩,
   ⟨"CMD.RESTART", .op, 0x59, 0xFF, fun _ => .cmdRestart⟩]

/-- The select word of a request: OPSEL, or the composite `(OPSEL << 8) | frame[2]` (R88). DESIGN
CHOICE (log 12): where frame[2] is absent its place holds 0x00, which selects the RAW row as R88's
"any other value, or absent" asks. Safe. -/
def Request.selectWord (r : Request) : Nat :=
  match r.format with
  | .op => r.opsel.toNat
  | .opRpy => r.opsel.toNat * 256 + ((r.bytes[discOffset]?).getD 0#8).toNat

/-- A row takes a request of its format whose select word matches under the mask. -/
def OpRow.selects (row : OpRow) (r : Request) : Bool :=
  row.format == r.format && (r.selectWord &&& row.mask) == row.matchBits

/-- The decoder: the first row that takes the request. Total; a select code without a row is refused
as `badOp` (R86 (f)). -/
def decode (r : Request) : Except DecodeError Instr :=
  match opcodeTable.find? (fun row => row.selects r) with
  | some row => .ok (row.make r)
  | none => .error .badOp

/-- The agents that may cause an operation as a step of its own (R88, agent column; R230: the host
cannot inject COR.RX, COR.EXPIRE or QRY.RETRY). The internal use of COR.WRITE is `qryAttempt`, inside a
query's steps, with OWN_QUERY and QATTEMPT (R156); alone it is the host's (log 29). -/
def Instr.agents : Instr → List Agent
  | .crcGen _ | .crcVfy _ | .frmEnc _ _ | .frmDec _ | .frmDecSet _ | .frmDecLim _ | .frmDecRaw _ =>
    [.host, .internal]
  | .fldU16 _ _ | .fldAcc32 _ _ => [.internal]
  | .sesConnect _ | .sesSubscribe | .corWrite _ _ | .qryStart _ _ => [.host]
  | .corRx _ => [.inbound]
  | .corExpire _ | .qryRetry => [.timer]
  | .cmdStatus | .cmdLimits | .cmdSetv _ | .cmdSeti _ | .cmdSetbl _ | .cmdSetbz _ | .cmdSetto _
  | .cmdOn | .cmdOff | .cmdRestart => [.host]

/-! ## The encoder -/

/-- A request of format `OP` with the given OPSEL and every operand lane empty. -/
def Request.ofOpsel (opsel : Byte) : Request := ⟨.op, opsel, [], 0#16, 0, 0⟩

/-- The request that presents an operation (R88). -/
def encode : Instr → Request
  | .crcGen src => { Request.ofOpsel 0x01#8 with bytes := src }
  | .crcVfy frame => { Request.ofOpsel 0x02#8 with bytes := frame }
  | .fldU16 buf off => { Request.ofOpsel 0x08#8 with bytes := buf, off := off }
  | .fldAcc32 buf off => { Request.ofOpsel 0x09#8 with bytes := buf, off := off }
  | .frmEnc code payload => { Request.ofOpsel 0x10#8 with code := code, bytes := payload }
  | .frmDec frame => { Request.ofOpsel 0x11#8 with bytes := frame }
  | .frmDecSet frame => { Request.ofOpsel 0x11#8 with format := .opRpy, bytes := frame }
  | .frmDecLim frame => { Request.ofOpsel 0x11#8 with format := .opRpy, bytes := frame }
  | .frmDecRaw frame => { Request.ofOpsel 0x11#8 with format := .opRpy, bytes := frame }
  | .sesConnect address => { Request.ofOpsel 0x20#8 with bytes := address }
  | .sesSubscribe => Request.ofOpsel 0x21#8
  | .corWrite code bytes => { Request.ofOpsel 0x30#8 with code := code, bytes := bytes }
  | .qryStart code frame => { Request.ofOpsel 0x38#8 with code := code, bytes := frame }
  | .corRx bytes => { Request.ofOpsel 0x40#8 with bytes := bytes }
  | .corExpire key => { Request.ofOpsel 0x41#8 with code := key }
  | .qryRetry => Request.ofOpsel 0x42#8
  | .cmdStatus => Request.ofOpsel 0x50#8
  | .cmdLimits => Request.ofOpsel 0x51#8
  | .cmdSetv v => { Request.ofOpsel 0x52#8 with v := v }
  | .cmdSeti v => { Request.ofOpsel 0x53#8 with v := v }
  | .cmdSetbl v => { Request.ofOpsel 0x54#8 with v := v }
  | .cmdSetbz v => { Request.ofOpsel 0x55#8 with v := v }
  | .cmdSetto v => { Request.ofOpsel 0x56#8 with v := v }
  | .cmdOn => Request.ofOpsel 0x57#8
  | .cmdOff => Request.ofOpsel 0x58#8
  | .cmdRestart => Request.ofOpsel 0x59#8

/-! ## The host's view: one table word -/

/-- The request a table word stands for: 8 bits are an OPSEL, 16 bits a composite whose low byte is
frame[2]. Every operand bit the word does not give is 0. DESIGN CHOICE (log 13): the byte-string lane
then holds eight bytes. Safe: no claim about an operation rests on it. -/
def tableRequest (nbits w : Nat) : Request :=
  if nbits ≤ 8 then
    { Request.ofOpsel (BitVec.ofNat 8 w) with bytes := List.replicate 8 0#8 }
  else
    { Request.ofOpsel (BitVec.ofNat 8 (w / 256)) with
      format := .opRpy, bytes := [0#8, 0#8, BitVec.ofNat 8 w] ++ List.replicate 5 0#8 }

/-- The operation the decoder reads from a table word. -/
def decodeTableWord (nbits w : Nat) : Option Instr :=
  match decode (tableRequest nbits w) with
  | .ok i => some i
  | .error _ => none

end Sys2Proof
end

