-- ==== Sys2Proof/Machine/State.lean ====
section
/-! DEFINITION. The engine's state as plain data (10_state R20), its reset values (R39), and the
reasons for which a step stops. The spec's state comes first; the model's own fields, which stand for
ports and answers of the environment, come last and say so. -/
namespace Sys2Proof.Machine

/-- `SESS` (10_state R25). -/
inductive Sess where
  /-- `S_DOWN`: no connection attempted. -/
  | down
  /-- `S_CONNECTED`: connected, not subscribed. -/
  | connected
  /-- `S_READY`: connected and subscribed. -/
  | ready
  /-- `S_FAILED`: the connect failed; absorbing (R153). -/
  | failed
deriving DecidableEq, Repr

/-- Who waits on a slot (10_state R28). -/
inductive Owner where
  /-- `OWN_HOST`. -/
  | host
  /-- `OWN_QUERY`. -/
  | query
deriving DecidableEq, Repr

/-- The raw value of a decoded field in its declared width, always unsigned (R123, R124). -/
inductive Raw where
  | u16 (w : Word16)
  | acc32 (w : Word32)
deriving DecidableEq, Repr

/-- A decoded numeric field: the pair (raw, scale) (00_scope R14). -/
structure FieldValue where
  raw : Raw
  scale : Nat
deriving DecidableEq, Repr

/-- A report: its fields by name, in schema row order (R89). -/
abbrev Report := List (String × FieldValue)

/-- A DecodedReply (30_encoding R89). -/
inductive Reply where
  | settings (m : Report)
  | limits (m : Report)
  | raw (body : ByteString)
deriving DecidableEq, Repr

/-- A slot record, the source's PendingRequest (10_state R28). -/
structure Slot where
  key : Key
  attempt : Nat
  deadline : Nat
  owner : Owner
deriving DecidableEq, Repr

/-- `SLOT` (10_state R27): the pending keys with their records. Canonical form: `SlotTable.wf`. -/
abbrev SlotTable := List (Key × Slot)

/-- The canonical form of the slot table: keys strictly rising. It makes equal maps equal data and
allows at most one record for a key (R27). -/
abbrev SlotTable.wf (t : SlotTable) : Prop := t.Pairwise (fun a b => a.1 < b.1)

/-- `QSTATE` (10_state R30). -/
inductive QState where
  /-- `Q_IDLE`. -/
  | idle
  /-- `Q_WAIT`. -/
  | wait
  /-- `Q_BACKOFF`. -/
  | backoff
deriving DecidableEq, Repr

/-- The adapter's answer to a connect or a write (60_exceptions R232). -/
inductive Answer where
  | ok
  /-- ConnectionFailed for a connect, TransportError for a write. -/
  | error
deriving DecidableEq, Repr

/-- An event of the sink (60_exceptions R236); no other kind is emitted (log 25). -/
inductive Event where
  /-- `EV_UNEXPECTED(key or none, reply)`. -/
  | unexpected (key : Option Key) (reply : Reply)
deriving DecidableEq, Repr

/-- The outcome of a completion (10_state R42). -/
inductive Completion where
  | resolved (reply : Reply)
  /-- `E_TIMEOUT`. -/
  | timeout
  /-- `E_CMDFAIL(attempts, cause)`. -/
  | cmdFail (attempts : Nat) (cause : Err)
  /-- `E_NOTREADY`. -/
  | notReady
deriving DecidableEq, Repr

/-- An entry `DONE(owner, key, outcome)` of `DONELOG` (10_state R42). -/
structure Done where
  owner : Owner
  key : Key
  outcome : Completion
deriving DecidableEq, Repr

/-- What an operation returns on the port that caused it (30_encoding R88, result column). -/
inductive Ret where
  /-- No result (COR.RX, COR.EXPIRE, QRY.RETRY, and an accepted QRY.START or CMD.*, whose completion
  goes to `DONELOG`). -/
  | nothing
  | ok
  | accepted
  | bytes (b : ByteString)
  | bool (b : Bool)
  | raw16 (w : Word16)
  | raw32 (w : Word32)
  | reply (r : Reply)
  /-- An error outcome with the key it records (R211, column "records"): E_TRANSPORT records the key of
  the write, every other outcome that is returned records nothing. -/
  | err (e : Err) (record : Option Key := none)
  /-- The host command port is not ready: the operation waits on it (42_correlator R175). -/
  | held
deriving DecidableEq, Repr

/-- One turn of the environment: which agent moves, by how much `NOW` has advanced (R32: it never
decreases), and what the adapter answers if this turn's step calls it (R40). -/
structure Turn where
  agent : Agent
  dt : Nat
  ans : Answer
deriving DecidableEq, Repr

/-- The environment as data: the schedule of turns and what waits on each agent's port, head first.
The spec leaves every interleaving and every answer open (20_memory R60 (3), R63); a statement about
every state is a statement about every environment (log 2). -/
structure Env where
  turns : List Turn
  host : List Request
  internal : List Request
  inbound : List Request
  timer : List Request
deriving DecidableEq, Repr

/-- The state of the engine. -/
structure State where
  /-- `SESS` (R25). -/
  sess : Sess
  /-- `SLOT` (R27). -/
  slots : SlotTable
  /-- `QSTATE` (R30). -/
  qstate : QState
  /-- `QCODE` (R31). -/
  qcode : Key
  /-- `QFRAME` (R31). -/
  qframe : ByteString
  /-- `QATTEMPT` (R31). -/
  qattempt : Nat
  /-- `QBACKOFF_UNTIL` (R31). -/
  qbackoffUntil : Nat
  /-- `QLASTERR` (R31). -/
  qlasterr : Err
  /-- `EVLOG`, oldest first (R33). -/
  evlog : List Event
  /-- `TXLOG`, oldest first (R34). -/
  txlog : List (ByteString × Answer)
  /-- `DONELOG`, oldest first (R42). -/
  donelog : List Done
  /-- `NOW` in ms, an input (R32); set by `step` from the turn (log 5). -/
  now : Nat
  /-- The model's own: what the last step's operation returned (log 8). -/
  ret : Ret
  /-- The model's own: the adapter's answer to a call made in this step (log 6). -/
  ans : Answer
  /-- The model's own: the connect calls handed to the adapter, oldest first (log 9). -/
  connlog : List (Address × Answer)
  /-- The model's own: how many QRY.START have loaded the query registers; it picks the free values of
  the next one (log 27). -/
  fresh : Nat
  /-- The model's own: the environment (log 2). -/
  env : Env
deriving DecidableEq, Repr

/-- The engine has no trap and never stops: every error of R211 is an outcome handed over in a next
state, and nothing else can fail (60_exceptions R238). So there is no fault. -/
inductive Fault
deriving DecidableEq, Repr

/-- Why the model gives a step no meaning. -/
inductive Refusal where
  /-- Raised by `exec`'s arms for an operation that has no meaning yet. Safe. -/
  | notModelled (mnemonic : String)
  /-- Raised by FLD.U16 and FLD.ACC32 when the field's footprint does not fit in the buffer: "the
  operation is not defined and a model refuses it" (R121, R122). Safe. -/
  | fieldOutOfRange
  /-- Raised by `step` when an agent presents an operation that only another agent can cause: "a host
  cannot inject them" (R230); the spec says nothing of what would follow (log 11). Safe. -/
  | wrongAgent
  /-- Raised by the operations that build or accept a frame when `MAX_FRAME_LEN` is set and the frame is
  longer: "if a model sets `MAX_FRAME_LEN` and `len(payload) + 4` exceeds it, the model refuses the
  operation" (R126), "a longer inbound chunk is outside the model" (R58). With the spec's default,
  unbounded, it does not arise (U10; log 15). Safe. -/
  | frameTooLong
deriving DecidableEq, Repr

/-- Reset: the creation of the instance (70_reset R250), with the values of R39. DESIGN CHOICE, unsafe
(log 7): the query registers other than QSTATE, which R39 leaves unspecified. DESIGN CHOICE, unsafe
(log 5): `NOW` is 0. The model's own fields are empty, zero or `ok` (logs 2, 6, 8, 9, 27). -/
def State.reset : State :=
  { sess := .down, slots := [], qstate := .idle,
    qcode := 0#16, qframe := [], qattempt := 1, qbackoffUntil := 0, qlasterr := .timeout,
    evlog := [], txlog := [], donelog := [], now := 0,
    ret := .nothing, ans := .ok, connlog := [], fresh := 0,
    env := { turns := [], host := [], internal := [], inbound := [], timer := [] } }

end Sys2Proof.Machine
end

