-- ==== Sys2Proof/Machine/Operands.lean ====
section
/-! DEFINITION. How operands are read: the bit and byte order primitives of 00_scope R12, reads of a
byte string (R13, 20_memory R52), the split of a frame, and the clamp of the setters. -/
namespace Sys2Proof.Machine

/-- `rev8` (R12): bit i of the result is bit 7-i of `b`. -/
def rev8 (b : Byte) : Byte := b.reverse

/-- `rev16` (R12): bit i of the result is bit 15-i of `w`. -/
def rev16 (w : Word16) : Word16 := w.reverse

/-- `swap16` (R12). -/
def swap16 (w : Word16) : Word16 := ((w &&& 0x00FF#16) <<< 8) ||| (w >>> 8)

/-- `be16` (R12): the 2-byte big-endian string of `w`. -/
def be16 (w : Word16) : ByteString := [w.extractLsb' 8 8, w.extractLsb' 0 8]

/-- `be32` (43_command_builders R204): the 4-byte big-endian string of `w`. -/
def be32 (w : Word32) : ByteString :=
  [w.extractLsb' 24 8, w.extractLsb' 16 8, w.extractLsb' 8 8, w.extractLsb' 0 8]

/-- The byte at an index; a caller reads inside the string only (R13: MemRead is defined only there). -/
def byteAt (s : ByteString) (i : Nat) : Byte := s.getD i 0#8

/-- `BE16(s, off) = (s[off] << 8) | s[off+1]` (R12). -/
def be16At (s : ByteString) (off : Nat) : Word16 :=
  ((byteAt s off).setWidth 16 <<< 8) ||| (byteAt s (off + 1)).setWidth 16

/-- The reordered accumulator at `off` (R122): bytes off, off+1 are bits 15:0, byte off+4 is bits
31:24, byte off+5 is bits 23:16; bytes off+2 and off+3 are not read. -/
def acc32At (s : ByteString) (off : Nat) : Word32 :=
  (be16At s off).setWidth 32 |||
    ((byteAt s (off + accHiB3Delta)).setWidth 32 <<< 24) |||
    ((byteAt s (off + accHiB2Delta)).setWidth 32 <<< 16)

/-- The body of a frame: all but the last two bytes (00_scope R16). -/
def body (frame : ByteString) : ByteString := frame.take (frame.length - trailerLen)

/-- The trailer of a frame: its last two bytes (R16). -/
def trailer (frame : ByteString) : ByteString := frame.drop (frame.length - trailerLen)

/-- `clamp(v, lo, hi)` (43_command_builders R192). -/
def clamp (v lo hi : Int) : Int := if v < lo then lo else if v > hi then hi else v

/-- A setter's operand clamped to `0 .. hi * scale` (R193); never negative (R138 (c)). -/
def clampOperand (v : Int) (hi scale : Nat) : Nat := (clamp v 0 (hi * scale : Nat)).toNat

/-- The number of an error outcome (R211). -/
def Err.number : Err → Nat
  | .crc => 1
  | .timeout => 2
  | .transport => 3
  | .unexpected => 4
  | .conn => 5
  | .cmdFail => 6
  | .busy => 7
  | .notReady => 8
  | .badOp => 9

/-- What an error of a write of `code` records (R211, column "records"). -/
def Err.record (code : Key) (e : Err) : Option Key := if e = .transport then some code else none

/-- A frame of `n` bytes is within `MAX_FRAME_LEN`, where that is set (R8, R58). -/
def frameFits (max : Option Nat) (n : Nat) : Bool :=
  match max with
  | none => true
  | some m => decide (n ≤ m)

/-- The unsigned value of a raw field (R124). -/
def Raw.toNat : Raw → Nat
  | .u16 w => w.toNat
  | .acc32 w => w.toNat

/-- The displayed value `raw / scale`, exact (R14, R123). -/
def FieldValue.value (f : FieldValue) : Rat := (f.raw.toNat : Rat) / (f.scale : Rat)

/-- How many decimals a scale displays: as many as it has zeros (R123). -/
def decimals (scale : Nat) : Nat :=
  if scale = 1000 then 3 else if scale = 100 then 2 else if scale = 10 then 1 else 0

/-- The displayed text of a field: 3000 at scale 100 is "30.00" (R123). -/
def FieldValue.render (f : FieldValue) : String :=
  let n := f.raw.toNat
  let d := decimals f.scale
  if d = 0 then toString n
  else
    let frac := toString (n % f.scale)
    toString (n / f.scale) ++ "." ++ String.ofList (List.replicate (d - frac.length) '0') ++ frac

/-- The entry of a report for a name (R89: a report is a map from names). -/
def Report.find (m : Report) (name : String) : Option FieldValue := m.lookup name

end Sys2Proof.Machine
end

