-- ==== Sys2Proof/Machine/Flags.lean ====
section
/-! DEFINITION. The slot table as a map, and the status a host can observe (10_state R35): PENDING(k)
and QBUSY, with the enabling conditions of the asynchronous steps (60_exceptions R219). -/
namespace Sys2Proof.Machine

/-- `SLOT[k]` (R27): the record of key `k`, or absent. -/
def SlotTable.get : SlotTable → Key → Option Slot
  | [], _ => none
  | e :: rest, k => if e.1 = k then some e.2 else SlotTable.get rest k

/-- `SLOT[k] <- record`, at its place in the order of the keys. -/
def SlotTable.put : SlotTable → Key → Slot → SlotTable
  | [], k, sl => [(k, sl)]
  | e :: rest, k, sl =>
    if k = e.1 then (k, sl) :: rest
    else if k < e.1 then (k, sl) :: e :: rest
    else e :: SlotTable.put rest k sl

/-- `SLOT[k] <- absent`. -/
def SlotTable.drop (t : SlotTable) (k : Key) : SlotTable := t.filter (fun e => e.1 != k)

/-- `PENDING(k)` (R35): `SLOT[k]` exists. -/
def State.pending (s : State) (k : Key) : Bool := (s.slots.get k).isSome

/-- `QBUSY` (R30): `QSTATE != Q_IDLE`. -/
def State.qbusy (s : State) : Bool := s.qstate != .idle

/-- COR.RX is enabled (R161): the `subscribe` call is its only enable (R219 (a)). -/
def State.rxEnabled (s : State) : Bool := s.sess == .ready

/-- COR.EXPIRE k is enabled (R168): the slot exists and its deadline has come. -/
def State.expireEnabled (s : State) (k : Key) : Bool :=
  match s.slots.get k with
  | some sl => decide (sl.deadline ≤ s.now)
  | none => false

/-- QRY.RETRY is enabled (R174). -/
def State.retryEnabled (s : State) : Bool :=
  s.qstate == .backoff && decide (s.qbackoffUntil ≤ s.now)

end Sys2Proof.Machine
end

