-- ==== Sys2Proof/Machine/Frames.lean ====
section
/-! DEFINITION. The pure functions of the CRC Engine (40_crc) and the Frame Codec (41_frame_codec).
The schemas are arguments (30_encoding R84). -/
namespace Sys2Proof.Machine

/-! ## CRC (R100 to R109) -/

/-- One shift step of R102: shift left and, when the bit shifted out was 1, XOR in CRC_POLY. -/
def crcShift (r : Word16) : Word16 :=
  if r.msb then (r <<< 1) ^^^ crcPoly else r <<< 1

/-- Update of CRCREG for one input byte (R102): the reversed byte goes into bits 15:8, then eight
shift steps. -/
def crcByte (r : Word16) (b : Byte) : Word16 :=
  Nat.iterate crcShift 8 (r ^^^ ((rev8 b).setWidth 16 <<< 8))

/-- `crc_reg` (R101, R103): start from CRC_INIT and take the bytes in order. -/
def crcReg (s : ByteString) : Word16 := s.foldl crcByte crcInit

/-- Finalisation (R104): bit-reverse, swap the bytes, emit big-endian. No final XOR (R100). -/
def crcFinal (r : Word16) : ByteString := be16 (swap16 (rev16 r))

/-- CRC.GEN's result (R105). -/
def crcGen (src : ByteString) : ByteString := crcFinal (crcReg src)

/-- CRC.VFY's result (R106, R108). -/
def crcVfy (frame : ByteString) : Bool :=
  if frame.length < trailerLen then false
  else crcGen (body frame) == trailer frame

/-- One shift step of the least-significant-bit-first form (R109). -/
def crcShiftLsb (q : Word16) : Word16 :=
  if q.getLsbD 0 then (q >>> 1) ^^^ 0xA001#16 else q >>> 1

/-- One byte of the least-significant-bit-first form (R109). -/
def crcByteLsb (q : Word16) (b : Byte) : Word16 := Nat.iterate crcShiftLsb 8 (q ^^^ b.setWidth 16)

/-- The least-significant-bit-first form of CRC.GEN (R109). -/
def crcGenLsb (src : ByteString) : ByteString :=
  let q := src.foldl crcByteLsb 0xFFFF#16
  [q.extractLsb' 0 8, q.extractLsb' 8 8]

/-! ## Fields and reports (R120 to R125) -/

/-- One field read (R125): the reader is a column of the row; nothing is sign-extended (R124). -/
def readField (b : ByteString) (row : SchemaRow) : FieldValue :=
  match row.kind with
  | .u16 => ⟨.u16 (be16At b row.off), row.scale⟩
  | .acc32 => ⟨.acc32 (acc32At b row.off), row.scale⟩

/-- `decode_fields(S, b)` (R125): the generic decode routine. -/
def decodeFields (S : Schema) (b : ByteString) : Report :=
  S.map (fun row => (row.name, readField b row))

/-! ## Frames (R126 to R131) -/

/-- FRM.ENC (R126): code and payload, then their CRC. -/
def frmEnc (code : Key) (payload : ByteString) : ByteString :=
  let b := be16 code ++ payload
  b ++ crcGen b

/-- The discriminator byte of a body, where present (R127 step 2). -/
def disc (b : ByteString) : Option Byte := b[discOffset]?

/-- The condition under which a verified body is a report of schema `S` (R128, R129): its
discriminator is `d` and every row can be read. -/
def shapeApplies (d : Byte) (S : Schema) (b : ByteString) : Bool :=
  disc b == some d && decide (S.reqLen ≤ b.length)

/-- FRM.DEC (R127): `none` is CrcMismatch. The CRC is checked before anything else (R212); a body too
short for its shape is RawBytes (R131). -/
def frmDec (settings limits : Schema) (frame : ByteString) : Option Reply :=
  if crcVfy frame then
    let b := body frame
    if shapeApplies discSettings settings b then some (.settings (decodeFields settings b))
    else if shapeApplies discLimits limits b then some (.limits (decodeFields limits b))
    else some (.raw b)
  else none

/-- The SETTINGS arm (R128): its report when its condition holds, else the RAW arm (R131). -/
def frmDecSet (settings : Schema) (frame : ByteString) : Option Reply :=
  if crcVfy frame then
    if shapeApplies discSettings settings (body frame) then
      some (.settings (decodeFields settings (body frame)))
    else some (.raw (body frame))
  else none

/-- The LIMITS arm (R129): its report when its condition holds, else the RAW arm (R131). -/
def frmDecLim (limits : Schema) (frame : ByteString) : Option Reply :=
  if crcVfy frame then
    if shapeApplies discLimits limits (body frame) then
      some (.limits (decodeFields limits (body frame)))
    else some (.raw (body frame))
  else none

/-- The RAW arm (R130): the whole body. -/
def frmDecRaw (frame : ByteString) : Option Reply :=
  if crcVfy frame then some (.raw (body frame)) else none

/-! ## The inverse packer (R137), a helper for statements and tests, not an operation -/

/-- Write one field into a body (R137). -/
def packField (b : ByteString) (row : SchemaRow) (raw : Raw) : ByteString :=
  match raw with
  | .u16 w => (b.set row.off (w.extractLsb' 8 8)).set (row.off + 1) (w.extractLsb' 0 8)
  | .acc32 w =>
    (((b.set row.off (w.extractLsb' 8 8)).set (row.off + 1) (w.extractLsb' 0 8)).set
      (row.off + accHiB3Delta) (w.extractLsb' 24 8)).set (row.off + accHiB2Delta) (w.extractLsb' 16 8)

/-- `pack_fields(S, values, fill)` (R137). -/
def packFields (S : Schema) (values : List Raw) (fill : Byte) : ByteString :=
  (S.zip values).foldl (fun b e => packField b e.1 e.2) (List.replicate S.reqLen fill)

/-- The offsets a row reads (R78). -/
def rowReads (r : SchemaRow) : List Nat :=
  match r.kind with
  | .u16 => [r.off, r.off + 1]
  | .acc32 => [r.off, r.off + 1, r.off + accHiB3Delta, r.off + accHiB2Delta]

end Sys2Proof.Machine
end

