-- ==== Sys2Proof/Machine/Ops.lean ====
section
/-! DEFINITION. The operations over the state that the meanings share: the named updates, how an error
outcome is handed over (what this engine has in the place of taking an exception, 60_exceptions R221),
`cor_write` (42_correlator R156), the query procedures (R171 to R173), the hold of the host port (R175)
and the agents' ports. -/
namespace Sys2Proof.Machine

/-! ## Named updates -/

/-- The result an operation returns on the port that caused it (10_state R23). -/
def State.respond (s : State) (r : Ret) : State := { s with ret := r }

/-- `SESS <- x`. -/
def State.setSess (s : State) (x : Sess) : State := { s with sess := x }

/-- `SLOT[k] <- record`. -/
def State.putSlot (s : State) (k : Key) (sl : Slot) : State := { s with slots := s.slots.put k sl }

/-- `SLOT[k] <- absent`. -/
def State.dropSlot (s : State) (k : Key) : State := { s with slots := s.slots.drop k }

/-- `QSTATE <- x`. -/
def State.setQState (s : State) (x : QState) : State := { s with qstate := x }

/-- `QCODE <- code; QFRAME <- frame; QATTEMPT <- 1` (R170). "QRY.START writes all of them" (R31): no rule
states what it writes to the other two query registers, so they take free values (log 27). -/
def State.loadQuery (s : State) (code : Key) (frame : ByteString) : State :=
  { s with
    qcode := code, qframe := frame, qattempt := 1, qbackoffUntil := Config.freeBackoffUntil s.fresh,
    qlasterr := (Config.freeLastErr s.fresh).err, fresh := s.fresh + 1 }

/-- `QATTEMPT <- n` (R174). -/
def State.setAttempt (s : State) (n : Nat) : State := { s with qattempt := n }

/-- `QLASTERR <- cause` (R173). -/
def State.setLastErr (s : State) (cause : Err) : State := { s with qlasterr := cause }

/-- `QBACKOFF_UNTIL <- t` (R173). -/
def State.setBackoffUntil (s : State) (t : Nat) : State := { s with qbackoffUntil := t }

/-- `emit EVENT(e)`: append to EVLOG (10_state R33). -/
def State.logEvent (s : State) (e : Event) : State := { s with evlog := s.evlog ++ [e] }

/-- `emit TX(bytes)`: one call of the adapter's write, recorded in TXLOG with its answer (R158,
10_state R34). -/
def State.emitTx (s : State) (bytes : ByteString) : State :=
  { s with txlog := s.txlog ++ [(bytes, s.ans)] }

/-- One call of the adapter's connect with the address unchanged (R152; log 9). -/
def State.emitConnect (s : State) (a : Address) : State :=
  { s with connlog := s.connlog ++ [(a, s.ans)] }

/-- Append `DONE(owner, key, outcome)` to DONELOG (10_state R42). -/
def State.complete (s : State) (owner : Owner) (key : Key) (outcome : Completion) : State :=
  { s with donelog := s.donelog ++ [⟨owner, key, outcome⟩] }

/-- Replace the environment. -/
def State.setEnv (s : State) (e : Env) : State := { s with env := e }

/-- A turn begins: it leaves the schedule, NOW advances, and the adapter's answer is sampled (R32,
R40; log 5, log 6). -/
def State.beginTurn (s : State) (t : Turn) (rest : List Turn) : State :=
  { s with now := s.now + t.dt, ans := t.ans, env := { s.env with turns := rest } }

/-! ## Error outcomes

"Control does not go to a handler; the failing operation ends and its outcome is handed to whoever is
listed in rule R211" (R221). Nothing is saved and there is no return (R223). -/

/-- An error outcome, with what it records (R211), returned to the agent that caused the operation;
nothing else changes (R218, R221). -/
def State.raise (s : State) (e : Err) (record : Option Key := none) : State :=
  s.respond (.err e record)

/-- An operation that builds or accepts a frame of `n` bytes, under `MAX_FRAME_LEN` (R8, R58, R126):
refused when the bound is set and exceeded, whatever it would do. -/
def withinFrame (max : Option Nat) (n : Nat) (out : Host.Outcome State Fault Refusal) :
    Host.Outcome State Fault Refusal :=
  if frameFits max n then out else .refused .frameTooLong

/-- FRM.ENC under the bound `max` (R126). -/
def frmEncWithin (max : Option Nat) (code : Key) (payload : ByteString) (s : State) :
    Host.Outcome State Fault Refusal :=
  withinFrame max (payload.length + 4) (.next (s.respond (.bytes (frmEnc code payload))))

/-! ## Write (R156 to R159) -/

/-- `cor_write(code, bytes, owner, attempt)` (R156): the state after it, and the error it returns,
`none` being `accepted`. The checks stand in the order of R220 (b); the slot is created before the
bytes are handed to the transport (R158) and destroyed again in the same step when the transport fails
(R159). -/
def corWrite (code : Key) (bytes : ByteString) (owner : Owner) (attempt : Nat) (s : State) :
    State × Option Err :=
  if s.sess ≠ .ready then (s, some .notReady)
  else if s.pending code then (s, some .busy)
  else
    let sent := (s.putSlot code ⟨code, attempt, s.now + tAttemptMs, owner⟩).emitTx bytes
    match s.ans with
    | .ok => (sent, none)
    | .error => (sent.dropSlot code, some .transport)

/-! ## Query procedures (R171 to R173) -/

/-- `qry_attempt_failed(cause)` (R173). The backoff stands between attempts only. -/
def qryAttemptFailed (P : Params) (cause : Err) (s : State) : State :=
  let s := s.setLastErr cause
  if s.qattempt < maxAttempts then
    (s.setQState .backoff).setBackoffUntil (s.now + P.backoffMs)
  else
    (s.setQState .idle).complete .query s.qcode (.cmdFail s.qattempt cause)

/-- `qry_attempt()` (R171): one write of QFRAME. DEDUCED (log 21): R171 shows that E_NOTREADY cannot
be the cause here; the model treats every cause alike. Safe. -/
def qryAttempt (P : Params) (s : State) : State :=
  match corWrite s.qcode s.qframe .query s.qattempt s with
  | (s', none) => s'.setQState .wait
  | (s', some cause) => qryAttemptFailed P cause s'

/-- `qry_resolved(reply)` (R172). -/
def qryResolved (reply : Reply) (s : State) : State :=
  (s.setQState .idle).complete .query s.qcode (.resolved reply)

/-! ## The hold (R175) -/

/-- While QBUSY the host command port does not take a QRY.START or CMD.*: the operation waits at the
head of the port and is never lost (R175, U14). DESIGN CHOICE (log 10): it is put back there, and
`ret` says that it waits. Safe. -/
def State.hold (s : State) (i : Instr) : State :=
  (s.setEnv { s.env with host := encode i :: s.env.host }).respond .held

/-- QRY.START code, frame (R170), for an operation `i` that is or expands to it: held while QBUSY;
completed at once with E_NOTREADY when the session is not ready; else the first attempt. -/
def qryStart (P : Params) (i : Instr) (code : Key) (frame : ByteString) (s : State) : State :=
  if s.qbusy then s.hold i
  else if s.sess ≠ .ready then (s.complete .query code .notReady).respond .nothing
  else (qryAttempt P (s.loadQuery code frame)).respond .nothing

/-! ## Inbound frames and timers (R161 to R174) -/

/-- The waiter of a destroyed slot receives a reply (R165, R151). -/
def deliverReply (sl : Slot) (k : Key) (reply : Reply) (s : State) : State :=
  match sl.owner with
  | .host => s.complete .host k (.resolved reply)
  | .query => qryResolved reply s

/-- The waiter of a destroyed slot receives E_TIMEOUT (R168, R151). -/
def deliverTimeout (P : Params) (sl : Slot) (k : Key) (s : State) : State :=
  match sl.owner with
  | .host => s.complete .host k .timeout
  | .query => qryAttemptFailed P .timeout s

/-- COR.RX of a verified frame (R163 to R166): no key, no slot, or a slot to resolve. -/
def corRxReply (bytes : ByteString) (reply : Reply) (s : State) : State :=
  if (body bytes).length < keyLen then s.logEvent (.unexpected none reply)
  else
    let k := be16At (body bytes) 0
    match s.slots.get k with
    | none => s.logEvent (.unexpected (some k) reply)
    | some sl => deliverReply sl k reply (s.dropSlot k)

/-- COR.RX (R161): not enabled before `S_READY`; a frame whose CRC is bad is dropped silently (R162). -/
def corRx (P : Params) (bytes : ByteString) (s : State) : State :=
  if s.rxEnabled then
    match frmDec P.settings P.limits bytes with
    | none => s
    | some reply => corRxReply bytes reply s
  else s

/-- COR.EXPIRE (R168); when it is not enabled the step has no effect (R169). -/
def corExpire (P : Params) (k : Key) (s : State) : State :=
  match s.slots.get k with
  | none => s
  | some sl => if s.expireEnabled k then deliverTimeout P sl k (s.dropSlot k) else s

/-- QRY.RETRY (R174); when it is not enabled the step has no effect. -/
def qryRetry (P : Params) (s : State) : State :=
  if s.retryEnabled then qryAttempt P (s.setAttempt (s.qattempt + 1)) else s

/-! ## Builders (43_command_builders R190) -/

/-- A builder after its clamp and template: FRM.ENC, under the bound `max`, then QRY.START (R190). -/
def sendCommand (P : Params) (max : Option Nat) (i : Instr) (code : Key) (payload : ByteString)
    (s : State) : Host.Outcome State Fault Refusal :=
  withinFrame max (payload.length + 4) (.next (qryStart P i code (frmEnc code payload) s))

/-- A builder without operand (R190, R191). -/
def sendPlain (P : Params) (max : Option Nat) (i : Instr) (t : PlainTemplate) (s : State) :
    Host.Outcome State Fault Refusal :=
  sendCommand P max i t.code t.payload s

/-- A setter: the clamp, silently, then the template (R192, R193). -/
def sendSetter {hi : Nat} (P : Params) (max : Option Nat) (i : Instr) (t : SetterTemplate hi) (v : Int)
    (s : State) : Host.Outcome State Fault Refusal :=
  sendCommand P max i t.code (t.payload (clampOperand v hi t.scale)) s

/-! ## Ports -/

/-- What waits on an agent's port. -/
def Env.port (e : Env) : Agent → List Request
  | .host => e.host
  | .internal => e.internal
  | .inbound => e.inbound
  | .timer => e.timer

/-- Replace what waits on an agent's port. -/
def Env.setPort (e : Env) (a : Agent) (rs : List Request) : Env :=
  match a with
  | .host => { e with host := rs }
  | .internal => { e with internal := rs }
  | .inbound => { e with inbound := rs }
  | .timer => { e with timer := rs }

/-- Schedule one turn of agent `a` with `r` at the head of its port. DESIGN CHOICE (log 13): the turn
lets no time pass and keeps the answer `s.ans` as the adapter's, so that the operation runs on `s` as it
stands; R40 leaves the answer to the environment, and a caller chooses it by choosing `s.ans`. Safe. -/
def State.present (s : State) (a : Agent) (r : Request) : State :=
  let e := s.env.setPort a (r :: s.env.port a)
  s.setEnv { e with turns := ⟨a, 0, s.ans⟩ :: e.turns }

/-- An agent that may cause what a request names; the host for a request that names nothing. -/
def presenter (r : Request) : Agent :=
  match decode r with
  | .ok i => i.agents.headD .host
  | .error _ => .host

end Sys2Proof.Machine
end

