-- ==== Sys2Proof/Machine/Builders.lean ====
section
/-! DEFINITION. The meanings of the ten command builders (43_command_builders R190 to R203). Each
expands to its clamp, its template, FRM.ENC and QRY.START inside one step; the bytes of the templates
are open (R191). -/
namespace Sys2Proof.Machine

/-- CMD.STATUS (R194). -/
def execCmdStatus (s : State) : Host.Outcome State Fault Refusal :=
  sendPlain Config.params Config.maxFrameLen .cmdStatus Config.params.status s

/-- CMD.LIMITS (R195). -/
def execCmdLimits (s : State) : Host.Outcome State Fault Refusal :=
  sendPlain Config.params Config.maxFrameLen .cmdLimits Config.params.readLimits s

/-- CMD.SETV (R196). -/
def execCmdSetv (v : Int) (s : State) : Host.Outcome State Fault Refusal :=
  sendSetter Config.params Config.maxFrameLen (.cmdSetv v) Config.params.setv v s

/-- CMD.SETI (R197). -/
def execCmdSeti (v : Int) (s : State) : Host.Outcome State Fault Refusal :=
  sendSetter Config.params Config.maxFrameLen (.cmdSeti v) Config.params.seti v s

/-- CMD.SETBL (R198). -/
def execCmdSetbl (v : Int) (s : State) : Host.Outcome State Fault Refusal :=
  sendSetter Config.params Config.maxFrameLen (.cmdSetbl v) Config.params.setbl v s

/-- CMD.SETBZ (R199). -/
def execCmdSetbz (v : Int) (s : State) : Host.Outcome State Fault Refusal :=
  sendSetter Config.params Config.maxFrameLen (.cmdSetbz v) Config.params.setbz v s

/-- CMD.SETTO (R200): a setting of the device, not the engine's own deadline. -/
def execCmdSetto (v : Int) (s : State) : Host.Outcome State Fault Refusal :=
  sendSetter Config.params Config.maxFrameLen (.cmdSetto v) Config.params.setto v s

/-- CMD.ON (R201). -/
def execCmdOn (s : State) : Host.Outcome State Fault Refusal :=
  sendPlain Config.params Config.maxFrameLen .cmdOn Config.params.on s

/-- CMD.OFF (R202). -/
def execCmdOff (s : State) : Host.Outcome State Fault Refusal :=
  sendPlain Config.params Config.maxFrameLen .cmdOff Config.params.off s

/-- CMD.RESTART (R203): no effect on the engine beyond that of any builder (70_reset R252). -/
def execCmdRestart (s : State) : Host.Outcome State Fault Refusal :=
  sendPlain Config.params Config.maxFrameLen .cmdRestart Config.params.restart s

end Sys2Proof.Machine
end

