-- ==== Sys2Proof/Machine/Codec.lean ====
section
/-! DEFINITION. The meanings of the Frame Codec's operations (41_frame_codec): pure functions of their
operands and the schemas; they write nothing but their result. -/
namespace Sys2Proof.Machine

/-- FLD.U16 (R121): defined when `off + 2 <= len(buf)`; otherwise refused, as R121 says. -/
def execFldU16 (buf : ByteString) (off : Nat) (s : State) : Host.Outcome State Fault Refusal :=
  if off + 2 ≤ buf.length then .next (s.respond (.raw16 (be16At buf off)))
  else .refused .fieldOutOfRange

/-- FLD.ACC32 (R122): defined when `off + 6 <= len(buf)`; otherwise refused, as R122 says. -/
def execFldAcc32 (buf : ByteString) (off : Nat) (s : State) : Host.Outcome State Fault Refusal :=
  if off + 6 ≤ buf.length then .next (s.respond (.raw32 (acc32At buf off)))
  else .refused .fieldOutOfRange

/-- FRM.ENC (R126): returns the frame; sends nothing. -/
def execFrmEnc (code : Key) (payload : ByteString) (s : State) : Host.Outcome State Fault Refusal :=
  frmEncWithin Config.maxFrameLen code payload s

/-- The result of a decode: the reply, or E_CRC returned directly (R212). -/
def State.respondDecoded (s : State) (r : Option Reply) : State :=
  match r with
  | some reply => s.respond (.reply reply)
  | none => s.raise .crc

/-- FRM.DEC (R127). -/
def execFrmDec (frame : ByteString) (s : State) : Host.Outcome State Fault Refusal :=
  withinFrame Config.maxFrameLen frame.length
    (.next (s.respondDecoded (frmDec Config.params.settings Config.params.limits frame)))

/-- FRM.DEC.SET (R128). -/
def execFrmDecSet (frame : ByteString) (s : State) : Host.Outcome State Fault Refusal :=
  withinFrame Config.maxFrameLen frame.length
    (.next (s.respondDecoded (frmDecSet Config.params.settings frame)))

/-- FRM.DEC.LIM (R129). -/
def execFrmDecLim (frame : ByteString) (s : State) : Host.Outcome State Fault Refusal :=
  withinFrame Config.maxFrameLen frame.length
    (.next (s.respondDecoded (frmDecLim Config.params.limits frame)))

/-- FRM.DEC.RAW (R130). -/
def execFrmDecRaw (frame : ByteString) (s : State) : Host.Outcome State Fault Refusal :=
  withinFrame Config.maxFrameLen frame.length (.next (s.respondDecoded (frmDecRaw frame)))

end Sys2Proof.Machine
end

