-- ==== Sys2Proof/Machine/Correlator.lean ====
section
/-! DEFINITION. The meanings of the slot layer's operations (42_correlator R156 to R169). -/
namespace Sys2Proof.Machine

/-- COR.WRITE issued directly, which only the host does (log 29): the waiter is the host and the attempt
is 1 (R156). E_TRANSPORT is returned with its key (R211). -/
def execCorWrite (code : Key) (bytes : ByteString) (s : State) : Host.Outcome State Fault Refusal :=
  match corWrite code bytes .host 1 s with
  | (s', none) => .next (s'.respond .accepted)
  | (s', some e) => .next (s'.raise e (e.record code))

/-- COR.RX (R161): no result is returned to the transport. -/
def execCorRx (bytes : ByteString) (s : State) : Host.Outcome State Fault Refusal :=
  withinFrame Config.maxFrameLen bytes.length
    (.next ((corRx Config.params bytes s).respond .nothing))

/-- COR.EXPIRE (R168). -/
def execCorExpire (key : Key) (s : State) : Host.Outcome State Fault Refusal :=
  .next ((corExpire Config.params key s).respond .nothing)

end Sys2Proof.Machine
end

