-- ==== Sys2Proof/Machine/Crc.lean ====
section
/-! DEFINITION. The meanings of the CRC Engine's operations (40_crc). Neither reads SESS (R153) nor
writes anything but its result. -/
namespace Sys2Proof.Machine

/-- CRC.GEN (R105): returns the 2-byte trailer; cannot fail. -/
def execCrcGen (src : ByteString) (s : State) : Host.Outcome State Fault Refusal :=
  .next (s.respond (.bytes (crcGen src)))

/-- CRC.VFY (R106): returns a boolean for any input. -/
def execCrcVfy (frame : ByteString) (s : State) : Host.Outcome State Fault Refusal :=
  .next (s.respond (.bool (crcVfy frame)))

end Sys2Proof.Machine
end

