-- ==== Sys2Proof/Machine/Query.lean ====
section
/-! DEFINITION. The meanings of the query unit's operations (42_correlator R170 to R175). -/
namespace Sys2Proof.Machine

/-- QRY.START (R170, R175). -/
def execQryStart (code : Key) (frame : ByteString) (s : State) : Host.Outcome State Fault Refusal :=
  .next (qryStart Config.params (.qryStart code frame) code frame s)

/-- QRY.RETRY (R174). -/
def execQryRetry (s : State) : Host.Outcome State Fault Refusal :=
  .next ((qryRetry Config.params s).respond .nothing)

end Sys2Proof.Machine
end

