-- ==== Sys2Proof/Machine/Session.lean ====
section
/-! DEFINITION. The meanings of the session operations (42_correlator R152 to R155). -/
namespace Sys2Proof.Machine

/-- SES.CONNECT (R152): one connect call, answered by the adapter; a failure is for good (R153). In
any session state but S_DOWN it returns E_NOTREADY, calls nothing and changes nothing (R154). -/
def execSesConnect (address : Address) (s : State) : Host.Outcome State Fault Refusal :=
  if s.sess = .down then
    match s.ans with
    | .ok => .next (((s.emitConnect address).setSess .connected).respond .ok)
    | .error => .next (((s.emitConnect address).setSess .failed).raise .conn)
  else .next (s.raise .notReady)

/-- SES.SUBSCRIBE (R155). -/
def execSesSubscribe (s : State) : Host.Outcome State Fault Refusal :=
  match s.sess with
  | .connected => .next ((s.setSess .ready).respond .ok)
  | .ready => .next (s.respond .ok)
  | .down | .failed => .next (s.raise .notReady)

end Sys2Proof.Machine
end

