-- ==== Sys2Proof/Machine/Dispatch.lean ====
section
/-! DEFINITION. One arm per operation of spec/opcode_table.json: the call of its meaning. -/
namespace Sys2Proof.Machine

def exec (i : Instr) (s : State) : Host.Outcome State Fault Refusal :=
  match i with
  | .crcGen src => Sys2Proof.Machine.execCrcGen src s
  | .crcVfy frame => Sys2Proof.Machine.execCrcVfy frame s
  | .fldU16 buf off => Sys2Proof.Machine.execFldU16 buf off s
  | .fldAcc32 buf off => Sys2Proof.Machine.execFldAcc32 buf off s
  | .frmEnc code payload => Sys2Proof.Machine.execFrmEnc code payload s
  | .frmDec frame => Sys2Proof.Machine.execFrmDec frame s
  | .frmDecSet frame => Sys2Proof.Machine.execFrmDecSet frame s
  | .frmDecLim frame => Sys2Proof.Machine.execFrmDecLim frame s
  | .frmDecRaw frame => Sys2Proof.Machine.execFrmDecRaw frame s
  | .sesConnect address => Sys2Proof.Machine.execSesConnect address s
  | .sesSubscribe => Sys2Proof.Machine.execSesSubscribe s
  | .corWrite code bytes => Sys2Proof.Machine.execCorWrite code bytes s
  | .qryStart code frame => Sys2Proof.Machine.execQryStart code frame s
  | .corRx bytes => Sys2Proof.Machine.execCorRx bytes s
  | .corExpire key => Sys2Proof.Machine.execCorExpire key s
  | .qryRetry => Sys2Proof.Machine.execQryRetry s
  | .cmdStatus => Sys2Proof.Machine.execCmdStatus s
  | .cmdLimits => Sys2Proof.Machine.execCmdLimits s
  | .cmdSetv v => Sys2Proof.Machine.execCmdSetv v s
  | .cmdSeti v => Sys2Proof.Machine.execCmdSeti v s
  | .cmdSetbl v => Sys2Proof.Machine.execCmdSetbl v s
  | .cmdSetbz v => Sys2Proof.Machine.execCmdSetbz v s
  | .cmdSetto v => Sys2Proof.Machine.execCmdSetto v s
  | .cmdOn => Sys2Proof.Machine.execCmdOn s
  | .cmdOff => Sys2Proof.Machine.execCmdOff s
  | .cmdRestart => Sys2Proof.Machine.execCmdRestart s

end Sys2Proof.Machine
end

