-- ==== Sys2Proof/Machine/Turn.lean ====
section
/-! DEFINITION. How an operation reaches the engine, in the place of an instruction fetch: the next turn
of the schedule, the head of that agent's port, the decoder, and `exec`. -/
namespace Sys2Proof.Machine

/-- Run what an agent presents. A select code without a row gets E_BADOP and changes nothing (R86 (f),
R218; log 19). An operation that this agent cannot cause is refused (R230; log 11). -/
def runRequest (a : Agent) (r : Request) (s : State) : Host.Outcome State Fault Refusal :=
  match decode r with
  | .error .badOp => .next (s.raise .badOp)
  | .ok i => if i.agents.contains a then exec i s else .refused .wrongAgent

/-- One turn. With no turn left no agent acts and the engine waits unchanged (R237, R270; log 3). A
turn whose agent presents nothing only lets time pass (log 4). -/
def takeTurn (s : State) : Host.Outcome State Fault Refusal :=
  match s.env.turns with
  | [] => .next s
  | t :: rest =>
    let s1 := s.beginTurn t rest
    match s1.env.port t.agent with
    | [] => .next s1
    | r :: rs => runRequest t.agent r (s1.setEnv (s1.env.setPort t.agent rs))

/-- `s` with a table word's request at the head of the port of an agent that may cause it, and that
agent's turn next (log 13). -/
def State.presentWord (s : State) (nbits w : Nat) : State :=
  s.present (presenter (tableRequest nbits w)) (tableRequest nbits w)

end Sys2Proof.Machine
end

