-- ==== Sys2Proof/Safety.lean ====
section
/-! DEFINITION. The terms in which claims about the engine are stated: the invariant of its state, the
allowed moves of SESS, growth of the output histories, and what creating and destroying a slot mean. -/
namespace Sys2Proof.Machine

/-- The invariant of the engine (10_state R27, R28, R30; 42_correlator R177 (a) to (c)). -/
structure State.Inv (s : State) : Prop where
  /-- The slot table has its canonical form: at most one record for a key (R27). -/
  slots_wf : SlotTable.wf s.slots
  /-- A record stands under its own key (R28). -/
  slot_key : ∀ k sl, s.slots.get k = some sl → sl.key = k
  /-- Its attempt number is 1 .. MAX_ATTEMPTS, and 1 for a direct write (R28). -/
  slot_attempt : ∀ k sl, s.slots.get k = some sl → 1 ≤ sl.attempt ∧ sl.attempt ≤ maxAttempts ∧
    (sl.owner = .host → sl.attempt = 1)
  /-- Its deadline lies at most T_ATTEMPT_MS ahead (R28, R32). -/
  slot_deadline : ∀ k sl, s.slots.get k = some sl → sl.deadline ≤ s.now + tAttemptMs
  /-- A slot the query owns is the one of QCODE, of the current attempt, and the unit waits on it
  (R177 (a), (b)). -/
  query_slot : ∀ k sl, s.slots.get k = some sl → sl.owner = .query →
    k = s.qcode ∧ s.qstate = .wait ∧ sl.attempt = s.qattempt
  /-- While the unit waits, the slot of QCODE exists and is the query's (R177 (a)). -/
  wait_slot : s.qstate = .wait → ∃ sl, s.slots.get s.qcode = some sl ∧ sl.owner = .query
  /-- Slots and queries exist only in a ready session, which is never left (R157, R170, R171). -/
  ready_of_slot : ∀ k sl, s.slots.get k = some sl → s.sess = .ready
  ready_of_query : s.qstate ≠ .idle → s.sess = .ready
  /-- `1 <= QATTEMPT <= MAX_ATTEMPTS` while a query runs (R177 (c)). -/
  attempt_range : s.qstate ≠ .idle → 1 ≤ s.qattempt ∧ s.qattempt ≤ maxAttempts
  /-- In Q_BACKOFF attempts are left and the backoff ends at most T_BACKOFF_MS ahead (R173). -/
  backoff_range : s.qstate = .backoff → s.qattempt < maxAttempts ∧
    s.qbackoffUntil ≤ s.now + Config.params.backoffMs
  /-- The recorded cause of a failed attempt is never E_CRC nor a session error (R173, R171, C6). -/
  backoff_cause : s.qstate = .backoff →
    s.qlasterr = .timeout ∨ s.qlasterr = .transport ∨ s.qlasterr = .busy
  /-- "`QLASTERR` is therefore never `E_CRC`" (90_conflicts C6, R224). -/
  lasterr_ne_crc : s.qlasterr ≠ .crc

/-- The moves SESS may make in one step (10_state R25; S_FAILED is absorbing, R153). -/
def Sess.mayBecome (a b : Sess) : Prop :=
  b = a ∨ (a = .down ∧ (b = .connected ∨ b = .failed)) ∨ (a = .connected ∧ b = .ready)

/-- The histories only grow at the end (10_state R33, R34, R42), and NOW does not decrease (R32). -/
def State.Extends (s t : State) : Prop :=
  s.evlog <+: t.evlog ∧ s.txlog <+: t.txlog ∧ s.donelog <+: t.donelog ∧ s.connlog <+: t.connlog ∧
    s.now ≤ t.now

/-- `SLOT[k]` now holds `sl`, every other key is as before. -/
def SlotTable.Created (before after : SlotTable) (k : Key) (sl : Slot) : Prop :=
  after.get k = some sl ∧ ∀ k', k' ≠ k → after.get k' = before.get k'

/-- `SLOT[k]` is now absent, every other key is as before. -/
def SlotTable.Destroyed (before after : SlotTable) (k : Key) : Prop :=
  after.get k = none ∧ ∀ k', k' ≠ k → after.get k' = before.get k'

/-- The operations that start a query: QRY.START and the ten builders (43_command_builders R190). -/
def startsQuery : Instr → Bool
  | .qryStart _ _ | .cmdStatus | .cmdLimits | .cmdSetv _ | .cmdSeti _ | .cmdSetbl _ | .cmdSetbz _
  | .cmdSetto _ | .cmdOn | .cmdOff | .cmdRestart => true
  | .crcGen _ | .crcVfy _ | .fldU16 _ _ | .fldAcc32 _ _ | .frmEnc _ _ | .frmDec _ | .frmDecSet _
  | .frmDecLim _ | .frmDecRaw _ | .sesConnect _ | .sesSubscribe | .corWrite _ _ | .corRx _
  | .corExpire _ | .qryRetry => false

/-- How many completions of queries have been delivered. -/
def State.queryDones (s : State) : Nat := s.donelog.countP (fun d => d.owner == .query)

/-- `f` with bit `i` inverted, bit 0 being bit 0 of the first byte. -/
def flipBit (f : ByteString) (i : Nat) : ByteString :=
  f.modify (i / 8) (fun b => b ^^^ (1#8 <<< (i % 8)))

/-- The state after a query's attempt number `n` was sent and accepted (R170, R171), but for the slot
table, which is given. -/
def State.attemptSent (s : State) (code : Key) (frame : ByteString) (n : Nat) (slots : SlotTable) :
    State :=
  { s with
    slots := slots, txlog := s.txlog ++ [(frame, .ok)], qstate := .wait,
    qcode := code, qframe := frame, qattempt := n, ret := .nothing }

/-- The state after QRY.START has sent a query's first attempt (R170, R171, R31): `due` and `cause` are
what it wrote to QBACKOFF_UNTIL and QLASTERR, which no rule states (log 27). -/
def State.queryStarted (s : State) (code : Key) (frame : ByteString) (slots : SlotTable) (due : Nat)
    (cause : Err) : State :=
  { s.attemptSent code frame 1 slots with
    qbackoffUntil := due, qlasterr := cause, fresh := s.fresh + 1 }

/-- How many more frames the query unit can send for the running query. -/
def State.copiesLeft (s : State) : Nat := if s.qstate = .idle then 0 else maxAttempts - s.qattempt

end Sys2Proof.Machine
end

