-- ==== Sys2Proof/Certificates/Slice0/Obligations.lean ====
section
/-! DEFINITION. The statements for the provers: what the spec's rules say the operations and the engine
do, in terms of the model. -/
open Sys2Proof Sys2Proof.Machine

/-! ## Bit and byte order, CRC Engine -/

/-- R12: the bit-order primitives, each by its bits or its value, with the rule's examples. -/
def Obligations.BitOrderPrimitivesMatchDefinitions : Prop :=
  (∀ (b : Byte) (i : Nat), i < 8 → (rev8 b).getLsbD i = b.getLsbD (7 - i)) ∧
  (∀ (w : Word16) (i : Nat), i < 16 → (rev16 w).getLsbD i = w.getLsbD (15 - i)) ∧
  (∀ w : Word16, (swap16 w).toNat = w.toNat % 256 * 256 + w.toNat / 256) ∧
  (∀ w : Word16, (be16 w).map BitVec.toNat = [w.toNat / 256, w.toNat % 256]) ∧
  (∀ (s : ByteString) (off : Nat) (h : off + 1 < s.length),
    (be16At s off).toNat = s[off].toNat * 256 + s[off + 1].toNat) ∧
  rev8 0x01#8 = 0x80#8 ∧ rev8 0x31#8 = 0x8C#8 ∧ rev16 0xECD2#16 = 0x4B37#16 ∧
  swap16 0x4B37#16 = 0x374B#16 ∧ be16 0x374B#16 = [0x37#8, 0x4B#8] ∧
  (be16At [0x0B#8, 0xB8#8] 0).toNat = 3000

/-- R102, R103: `crc_reg` of the empty string is 0xFFFF; each byte in order is reversed into bits 15:8,
and eight times the register doubles modulo 2^16 and takes 0x8005 when its bit 15 was 1. R102's worked
example, step by step. -/
def Obligations.CrcRegisterFollowsDivision : Prop :=
  let shift := fun r : Word16 =>
    BitVec.ofNat 16 (2 * r.toNat % 65536) ^^^ (if r.getLsbD 15 then 0x8005#16 else 0#16)
  let load := fun (r : Word16) (b : Byte) => r ^^^ BitVec.ofNat 16 ((rev8 b).toNat * 256)
  crcReg [] = 0xFFFF#16 ∧
  (∀ (s : ByteString) (b : Byte), crcReg (s ++ [b]) =
    shift (shift (shift (shift (shift (shift (shift (shift (load (crcReg s) b))))))))) ∧
  load 0xFFFF#16 0x01#8 = 0x7FFF#16 ∧
  [0x7FFF#16, 0xFFFE#16, 0x7FF9#16, 0xFFF2#16, 0x7FE1#16, 0xFFC2#16, 0x7F81#16, 0xFF02#16].map shift =
    [0xFFFE#16, 0x7FF9#16, 0xFFF2#16, 0x7FE1#16, 0xFFC2#16, 0x7F81#16, 0xFF02#16, 0x7E01#16] ∧
  crcReg [0x01#8] = 0x7E01#16

/-- R105: CRC.GEN returns the two bytes of `swap16(rev16(crc_reg(src)))`, high byte first, and changes
nothing else; the rule's corner cases and example. -/
def Obligations.CrcGenReturnsTrailer : Prop :=
  (∀ (src : ByteString) (s : State),
    let w := swap16 (rev16 (crcReg src))
    exec (.crcGen src) s =
      .next { s with ret := .bytes [BitVec.ofNat 8 (w.toNat / 256), BitVec.ofNat 8 w.toNat] }) ∧
  crcGen [] = [0xFF#8, 0xFF#8] ∧ crcGen [0x00#8] = [0xBF#8, 0x40#8] ∧
  crcGen [0x00#8, 0x00#8] = [0x01#8, 0xB0#8] ∧
  crcGen [0x01#8, 0x03#8, 0x00#8, 0x00#8, 0x00#8, 0x1E#8] = [0xC5#8, 0xC2#8]

/-- R106, R108: CRC.VFY returns, for any input, whether the frame is a body followed by that body's two
CRC bytes in order; a frame shorter than two bytes gives false; nothing else changes; the rule's
examples. -/
def Obligations.CrcVfyComparesTrailer : Prop :=
  (∀ (frame : ByteString) (s : State), ∃ v : Bool,
    exec (.crcVfy frame) s = .next { s with ret := .bool v } ∧
    (v = true ↔ ∃ b t0 t1, frame = b ++ [t0, t1] ∧ crcGen b = [t0, t1]) ∧
    (frame.length < 2 → v = false)) ∧
  crcVfy [0x01#8, 0x03#8, 0x00#8, 0x00#8, 0x00#8, 0x1E#8, 0xC5#8, 0xC2#8] = true ∧
  crcVfy [0x01#8, 0x03#8, 0x00#8, 0x00#8, 0x00#8, 0x1E#8, 0xC2#8, 0xC5#8] = false ∧
  crcVfy [0xFF#8, 0xFF#8] = true

/-- R110 (a) and (c): every string followed by its CRC verifies, and the register over it is zero. -/
def Obligations.GeneratedTrailerVerifiesWithZeroResidue : Prop :=
  ∀ b : ByteString, crcVfy (b ++ crcGen b) = true ∧ crcReg (b ++ crcGen b) = 0x0000#16

/-- R110 (b): inverting any one bit of a string followed by its CRC makes verification fail. -/
def Obligations.SingleBitErrorsAreDetected : Prop :=
  ∀ (b : ByteString) (i : Nat), i < 8 * (b ++ crcGen b).length →
    crcVfy (flipBit (b ++ crcGen b) i) = false

/-- R109: the least-significant-bit-first form computes the same two bytes for every input. -/
def Obligations.LsbFirstFormEqualsMsbFirst : Prop :=
  ∀ src : ByteString, crcGenLsb src = crcGen src

/-! ## Frame Codec -/

/-- R121: FLD.U16 is the big-endian 16-bit value at any offset whose two bytes exist, unsigned;
otherwise the model refuses it. The rule's example. -/
def Obligations.FldU16ReadsBigEndian : Prop :=
  (∀ (buf : ByteString) (off : Nat) (s : State) (h : off + 2 ≤ buf.length),
    ∃ w : Word16, exec (.fldU16 buf off) s = .next { s with ret := .raw16 w } ∧
      w.toNat = buf[off].toNat * 256 + buf[off + 1].toNat) ∧
  (∀ (buf : ByteString) (off : Nat) (s : State), buf.length < off + 2 →
    exec (.fldU16 buf off) s = .refused .fieldOutOfRange) ∧
  (be16At [0x01#8, 0x03#8, 0x3C#8, 0x0B#8, 0xB8#8] 3).toNat = 3000

/-- R122: FLD.ACC32 takes bits 31:24 from byte off+4, 23:16 from off+5, 15:8 from off and 7:0 from
off+1, in full 32-bit width, and reads no other byte; otherwise the model refuses it. The rule's
example. -/
def Obligations.FldAcc32KeepsReorderedHalves : Prop :=
  (∀ (buf : ByteString) (off : Nat) (s : State) (h : off + 6 ≤ buf.length),
    ∃ w : Word32, exec (.fldAcc32 buf off) s = .next { s with ret := .raw32 w } ∧
      w.toNat = buf[off + 4].toNat * 2 ^ 24 + buf[off + 5].toNat * 2 ^ 16 +
        buf[off].toNat * 2 ^ 8 + buf[off + 1].toNat) ∧
  (∀ (buf : ByteString) (off : Nat) (s : State), buf.length < off + 6 →
    exec (.fldAcc32 buf off) s = .refused .fieldOutOfRange) ∧
  (acc32At [0xE2#8, 0x40#8, 0xAA#8, 0xBB#8, 0x00#8, 0x01#8] 0).toNat = 123456

/-- R126, R110 (a), R8: FRM.ENC returns code, payload and their CRC, four bytes longer than the payload;
it always verifies (the law R126 marks as derived); nothing is sent and nothing else changes. That it
completes for a payload of any length rests on MAX_FRAME_LEN being at the spec's default, unbounded, which
is the model's choice (log 15); with a bound set, exactly the frames that exceed it are refused. The
rule's examples. -/
def Obligations.FrmEncBuildsVerifiedFrame : Prop :=
  (∀ (code : Key) (payload : ByteString) (s : State), ∃ frame : ByteString,
    exec (.frmEnc code payload) s = .next { s with ret := .bytes frame } ∧
    (let b := [BitVec.ofNat 8 (code.toNat / 256), BitVec.ofNat 8 code.toNat] ++ payload
     frame = b ++ crcGen b) ∧
    frame.length = payload.length + 4 ∧ crcVfy frame = true ∧
    ∀ bound : Nat,
      (frame.length ≤ bound →
        frmEncWithin (some bound) code payload s = .next { s with ret := .bytes frame }) ∧
      (bound < frame.length →
        frmEncWithin (some bound) code payload s = .refused .frameTooLong)) ∧
  frmEnc 0x0103#16 [] = [0x01#8, 0x03#8, 0x40#8, 0x21#8] ∧
  frmEnc 0x0103#16 [0x00#8, 0x00#8, 0x00#8, 0x1E#8] =
    [0x01#8, 0x03#8, 0x00#8, 0x00#8, 0x00#8, 0x1E#8, 0xC5#8, 0xC2#8]

/-- R127: FRM.DEC of a frame: CrcMismatch exactly when it does not verify; else RawBytes for a body
without a discriminator; else by discriminator and length. Nothing but the result changes. -/
def Obligations.FrmDecFollowsFourSteps : Prop :=
  ∀ (s : State),
    (∀ frame : ByteString, crcVfy frame = false →
      exec (.frmDec frame) s = .next { s with ret := .err .crc }) ∧
    (∀ b : ByteString, b.length < 3 →
      exec (.frmDec (b ++ crcGen b)) s = .next { s with ret := .reply (.raw b) }) ∧
    (∀ (b : ByteString) (d : Byte), b[2]? = some d →
      exec (.frmDec (b ++ crcGen b)) s = .next { s with ret := .reply (
        if d = 0x3C#8 ∧ Config.params.settings.reqLen ≤ b.length then
          .settings (decodeFields Config.params.settings b)
        else if d = 0x1C#8 ∧ Config.params.limits.reqLen ≤ b.length then
          .limits (decodeFields Config.params.limits b)
        else .raw b) })

/-- R128: the SETTINGS arm, on a verified body with discriminator 0x3C that is long enough, returns a
report of exactly 18 entries with distinct names: each row's name with its raw value (U16 or ACC32 by
the row's kind) and its scale. "The first two body bytes (the key) and any bytes beyond REQ_LEN do not
enter the report": every body that agrees with it on the bytes between gives the same report. That the
schema's offsets are bounded for this (R72, R51) is the model's reading (log 30). Nothing but the result
changes. That the arm itself (R88), as FRM.DEC does (R127), returns RawBytes on a verified body that is
too short and E_CRC on a frame that does not verify is the model's reading (log 12): R128 gives the arm a
condition and no exception. -/
def Obligations.FrmDecSetReturnsSettingsReport : Prop :=
  ∀ (frame : ByteString) (s : State), frame[2]? = some 0x3C#8 →
    (∀ b, frame = b ++ crcGen b → 3 ≤ b.length → Config.params.settings.reqLen ≤ b.length →
      ∃ m : Report, exec (.frmDecSet frame) s = .next { s with ret := .reply (.settings m) } ∧
        m.length = 18 ∧ (m.map Prod.fst).Nodup ∧
        (∀ row ∈ Config.params.settings, m.find row.name = some
          (match row.kind with
           | .u16 => ⟨.u16 (be16At b row.off), row.scale⟩
           | .acc32 => ⟨.acc32 (acc32At b row.off), row.scale⟩)) ∧
        ∀ b' : ByteString, Config.params.settings.reqLen ≤ b'.length →
          (b'.take Config.params.settings.reqLen).drop 2 =
            (b.take Config.params.settings.reqLen).drop 2 →
          exec (.frmDecSet (b' ++ crcGen b')) s = .next { s with ret := .reply (.settings m) }) ∧
    (∀ b, frame = b ++ crcGen b → b.length < 3 ∨ b.length < Config.params.settings.reqLen →
      exec (.frmDecSet frame) s = .next { s with ret := .reply (.raw b) }) ∧
    (crcVfy frame = false → exec (.frmDecSet frame) s = .next { s with ret := .err .crc })

/-- R129: the LIMITS arm, as R128 with discriminator 0x1C and 12 entries. That the arm itself (R88), as
FRM.DEC does (R127), returns RawBytes on a verified body that is too short and E_CRC on a frame that does
not verify is the model's reading (log 12): R129 gives the arm a condition and no exception. -/
def Obligations.FrmDecLimReturnsLimitsReport : Prop :=
  ∀ (frame : ByteString) (s : State), frame[2]? = some 0x1C#8 →
    (∀ b, frame = b ++ crcGen b → 3 ≤ b.length → Config.params.limits.reqLen ≤ b.length →
      ∃ m : Report, exec (.frmDecLim frame) s = .next { s with ret := .reply (.limits m) } ∧
        m.length = 12 ∧ (m.map Prod.fst).Nodup ∧
        ∀ row ∈ Config.params.limits, m.find row.name = some
          (match row.kind with
           | .u16 => ⟨.u16 (be16At b row.off), row.scale⟩
           | .acc32 => ⟨.acc32 (acc32At b row.off), row.scale⟩)) ∧
    (∀ b, frame = b ++ crcGen b → b.length < 3 ∨ b.length < Config.params.limits.reqLen →
      exec (.frmDecLim frame) s = .next { s with ret := .reply (.raw b) }) ∧
    (crcVfy frame = false → exec (.frmDecLim frame) s = .next { s with ret := .err .crc })

/-- R130: the RAW arm returns the whole body of a verified frame and changes nothing else. That it
returns E_CRC on a frame that does not verify, and the body also on a frame that selects another arm,
where R130's condition fails and R88 does not select it, is the model's choice (log 12). The rule's
example. -/
def Obligations.FrmDecRawReturnsWholeBody : Prop :=
  (∀ (b : ByteString) (s : State),
    exec (.frmDecRaw (b ++ crcGen b)) s = .next { s with ret := .reply (.raw b) }) ∧
  (∀ (frame : ByteString) (s : State), crcVfy frame = false →
    exec (.frmDecRaw frame) s = .next { s with ret := .err .crc }) ∧
  (∀ s : State, exec (.frmDecRaw [0x01#8, 0x06#8, 0x00#8, 0x00#8, 0x04#8, 0xB0#8, 0x8A#8, 0xBE#8]) s =
    .next { s with ret := .reply (.raw [0x01#8, 0x06#8, 0x00#8, 0x00#8, 0x04#8, 0xB0#8]) })

/-- R88, R127: FRM.DEC is the one of its three arms that the frame selects: on every well-formed arm
the operation and FRM.DEC of the same frame answer alike. -/
def Obligations.FrmDecArmsAgreeWithFrmDec : Prop :=
  ∀ (frame : ByteString) (s : State),
    ((Instr.frmDecSet frame).wellFormed = true →
      exec (.frmDecSet frame) s = exec (.frmDec frame) s) ∧
    ((Instr.frmDecLim frame).wellFormed = true →
      exec (.frmDecLim frame) s = exec (.frmDec frame) s) ∧
    ((Instr.frmDecRaw frame).wellFormed = true →
      exec (.frmDecRaw frame) s = exec (.frmDec frame) s)

/-- R131: a verified body without a discriminator, or with discriminator 0x3C or 0x1C but shorter than
its schema, decodes as RawBytes of the whole body. -/
def Obligations.ShortBodiesDecodeAsRawBytes : Prop :=
  ∀ (b : ByteString) (s : State),
    (b.length < 3 ∨ (b[2]? = some 0x3C#8 ∧ b.length < Config.params.settings.reqLen) ∨
      (b[2]? = some 0x1C#8 ∧ b.length < Config.params.limits.reqLen)) →
    exec (.frmDec (b ++ crcGen b)) s = .next { s with ret := .reply (.raw b) }

/-- R134: bytes at and beyond REQ_LEN, and any byte no schema row reads, do not influence a decoded report,
whatever the schema. -/
def Obligations.BytesBeyondSchemaAreIgnored : Prop :=
  (∀ (S : Schema) (b extra : ByteString), S.reqLen ≤ b.length →
    decodeFields S (b ++ extra) = decodeFields S b) ∧
  (∀ (S : Schema) (b b' : ByteString), (∀ i ∈ S.flatMap rowReads, b'[i]? = b[i]?) →
    decodeFields S b' = decodeFields S b)

/-- R133: an encoded command decodes without CrcMismatch, and to RawBytes of code and payload unless
its first payload byte is a discriminator. -/
def Obligations.EncodedCommandDecodesToItself : Prop :=
  ∀ (code : Key) (payload : ByteString) (s : State),
    (∃ r : Reply, exec (.frmDec (frmEnc code payload)) s = .next { s with ret := .reply r }) ∧
    (payload.head? ≠ some 0x3C#8 → payload.head? ≠ some 0x1C#8 →
      exec (.frmDec (frmEnc code payload)) s =
        .next { s with ret := .reply (.raw (be16 code ++ payload)) })

/-- R137: for a schema whose rows read no byte in common, decoding a packed body gives the packed
values back, whatever the fill. -/
def Obligations.DecodeInvertsPack : Prop :=
  ∀ (S : Schema) (values : List Raw) (fill : Byte),
    (S.flatMap rowReads).Nodup → S.length = values.length →
    (∀ p ∈ S.zip values, (p.1.kind = .u16 ↔ ∃ w, p.2 = .u16 w)) →
    decodeFields S (packFields S values fill) =
      (S.zip values).map (fun p => (p.1.name, ⟨p.2, p.1.scale⟩))

/-- R136, R123: a row of kind U16 and scale 100 over the bytes 0B B8, as the source's "set voltage",
is (3000, 100), which displays as 30.00: in `decode_fields` of any schema, and in the report that FRM.DEC
returns for a settings-shaped frame. -/
def Obligations.SetVoltageExampleDecodesToThirty : Prop :=
  let thirty := fun (m : Report) (row : SchemaRow) =>
    ∃ v : FieldValue, m.find row.name = some v ∧ v.raw.toNat = 3000 ∧
      v.scale = 100 ∧ v.value = 30 ∧ v.render = "30.00"
  ∀ (row : SchemaRow) (b : ByteString), row.kind = .u16 → row.scale = 100 →
    b[row.off]? = some 0x0B#8 → b[row.off + 1]? = some 0xB8#8 →
    (∀ S : Schema, row ∈ S → S.fields.Nodup → thirty (decodeFields S b) row) ∧
    (∀ s : State, row ∈ Config.params.settings → b[2]? = some 0x3C#8 →
      Config.params.settings.reqLen ≤ b.length →
      ∃ m : Report, exec (.frmDec (b ++ crcGen b)) s = .next { s with ret := .reply (.settings m) } ∧
        thirty m row)

/-! ## Session -/

/-- R152, R154: SES.CONNECT in S_DOWN makes one connect call with the address unchanged; its answer
decides S_CONNECTED with `ok`, or S_FAILED with E_CONN. In any other session state it returns
E_NOTREADY and calls nothing. Nothing else changes. The `connlog` entry is the model's own record of
the call (log 9). -/
def Obligations.ConnectFollowsAdapterAnswerOnce : Prop :=
  ∀ (a : Address) (s : State),
    (s.sess = .down → s.ans = .ok → exec (.sesConnect a) s =
      .next { s with sess := .connected, connlog := s.connlog ++ [(a, .ok)], ret := .ok }) ∧
    (s.sess = .down → s.ans = .error → exec (.sesConnect a) s =
      .next { s with sess := .failed, connlog := s.connlog ++ [(a, .error)], ret := .err .conn }) ∧
    (s.sess ≠ .down → exec (.sesConnect a) s = .next { s with ret := .err .notReady })

/-- R155: SES.SUBSCRIBE makes a connected session ready, is `ok` again in a ready one, and returns
E_NOTREADY otherwise. Nothing else changes. -/
def Obligations.SubscribeMakesSessionReady : Prop :=
  ∀ s : State,
    (s.sess = .connected → exec .sesSubscribe s = .next { s with sess := .ready, ret := .ok }) ∧
    (s.sess = .ready → exec .sesSubscribe s = .next { s with ret := .ok }) ∧
    (s.sess = .down ∨ s.sess = .failed →
      exec .sesSubscribe s = .next { s with ret := .err .notReady })

/-- R25, R153: in any step SESS stays, or goes from S_DOWN to S_CONNECTED or S_FAILED, or from
S_CONNECTED to S_READY; in particular S_FAILED and S_READY are never left. -/
def Obligations.SessionMovesOnlyForward : Prop :=
  ∀ s t : State, step s = .next t → s.sess.mayBecome t.sess

/-- R153: in S_FAILED every SES.* and COR.WRITE returns E_NOTREADY and changes nothing; a query or
builder completes at once with E_NOTREADY in DONELOG, under its code, and changes nothing else; the pure
operations answer as in every session state. That COR.RX, which R153 says is not enabled, is admitted as
a step without effect is the model's choice (log 20). -/
def Obligations.FailedSessionRefusesOperations : Prop :=
  ∀ s : State, s.sess = .failed →
    let P := Config.params
    let refused := fun (i : Instr) (key : Key) =>
      exec i s = .next { s with
        donelog := s.donelog ++ [⟨.query, key, .notReady⟩], ret := .nothing }
    (∀ a, exec (.sesConnect a) s = .next { s with ret := .err .notReady }) ∧
    exec .sesSubscribe s = .next { s with ret := .err .notReady } ∧
    (∀ c b, exec (.corWrite c b) s = .next { s with ret := .err .notReady }) ∧
    (s.qstate = .idle →
      (∀ c f, refused (.qryStart c f) c) ∧ refused .cmdStatus P.status.code ∧
      refused .cmdLimits P.readLimits.code ∧ (∀ v, refused (.cmdSetv v) P.setv.code) ∧
      (∀ v, refused (.cmdSeti v) P.seti.code) ∧ (∀ v, refused (.cmdSetbl v) P.setbl.code) ∧
      (∀ v, refused (.cmdSetbz v) P.setbz.code) ∧ (∀ v, refused (.cmdSetto v) P.setto.code) ∧
      refused .cmdOn P.on.code ∧ refused .cmdOff P.off.code ∧ refused .cmdRestart P.restart.code) ∧
    (∀ b, exec (.corRx b) s = .next { s with ret := .nothing }) ∧
    (∀ src, exec (.crcGen src) s = .next { s with ret := .bytes (crcGen src) }) ∧
    (∀ f, exec (.crcVfy f) s = .next { s with ret := .bool (crcVfy f) }) ∧
    (∀ c p, exec (.frmEnc c p) s = .next { s with ret := .bytes (frmEnc c p) }) ∧
    (∀ f, ∃ r : Ret, (∀ s' : State, exec (.frmDec f) s' = .next { s' with ret := r }))

/-! ## Slot layer -/

/-- R156, R158: an accepted COR.WRITE creates the slot with attempt 1, deadline NOW + 1000 and owner
host, hands exactly the bytes to the transport, and returns `accepted`; other keys and everything else
are unchanged. -/
def Obligations.AcceptedWriteCreatesSlot : Prop :=
  ∀ (code : Key) (bytes : ByteString) (s : State),
    s.sess = .ready → s.slots.get code = none → s.ans = .ok →
    ∃ t : State, exec (.corWrite code bytes) s = .next t ∧
      SlotTable.Created s.slots t.slots code ⟨code, 1, s.now + 1000, .host⟩ ∧
      t = { s with slots := t.slots, txlog := s.txlog ++ [(bytes, .ok)], ret := .accepted }

/-- R157, R220 (b): not ready comes first, then busy; nothing is sent, no slot and no log changes. -/
def Obligations.RefusedWriteChangesNothing : Prop :=
  ∀ (code : Key) (bytes : ByteString) (s : State),
    (s.sess ≠ .ready →
      exec (.corWrite code bytes) s = .next { s with ret := .err .notReady }) ∧
    (s.sess = .ready → s.slots.get code ≠ none →
      exec (.corWrite code bytes) s = .next { s with ret := .err .busy })

/-- R159, R211: when the transport fails, the slot table is exactly as before, no completion follows, and
the write returns E_TRANSPORT, which records its key; the call stands in TXLOG with its answer. -/
def Obligations.FailedWriteLeavesNoSlot : Prop :=
  ∀ (code : Key) (bytes : ByteString) (s : State),
    s.sess = .ready → s.slots.get code = none → s.ans = .error →
    exec (.corWrite code bytes) s =
      .next { s with txlog := s.txlog ++ [(bytes, .error)], ret := .err .transport (some code) }

/-- R161 (enabling condition), R162: before S_READY, and for a frame whose CRC is bad, COR.RX changes
nothing: no slot, no completion, no event. That the model admits the step before S_READY, with no
effect, is its choice (log 20). -/
def Obligations.BadInboundFrameIsDroppedSilently : Prop :=
  ∀ (bytes : ByteString) (s : State), s.sess ≠ .ready ∨ crcVfy bytes = false →
    exec (.corRx bytes) s = .next { s with ret := .nothing }

/-- R164, R166: a verified frame without a key, or whose key has no slot, is logged as one
EV_UNEXPECTED with the reply that FRM.DEC gives, and nothing else changes. -/
def Obligations.UnexpectedReplyIsOnlyLogged : Prop :=
  ∀ (bytes : ByteString) (reply : Reply) (s : State), s.sess = .ready →
    frmDec Config.params.settings Config.params.limits bytes = some reply →
    (bytes.length < 4 → exec (.corRx bytes) s =
      .next { s with evlog := s.evlog ++ [.unexpected none (.raw (bytes.dropLast.dropLast))],
                     ret := .nothing }) ∧
    (4 ≤ bytes.length → s.slots.get (be16At bytes 0) = none → exec (.corRx bytes) s =
      .next { s with evlog := s.evlog ++ [.unexpected (some (be16At bytes 0)) reply],
                     ret := .nothing })

/-- R163, R165, R151: a verified frame whose key has a slot of the host destroys that slot, whatever
its shape, and appends `DONE(OWN_HOST, k, Resolved(reply))`; nothing else changes. -/
def Obligations.ReplyResolvesHostSlot : Prop :=
  ∀ (bytes : ByteString) (reply : Reply) (sl : Slot) (s : State), s.sess = .ready →
    frmDec Config.params.settings Config.params.limits bytes = some reply →
    4 ≤ bytes.length → s.slots.get (be16At bytes 0) = some sl → sl.owner = .host →
    ∃ t : State, exec (.corRx bytes) s = .next t ∧
      SlotTable.Destroyed s.slots t.slots (be16At bytes 0) ∧
      t = { s with slots := t.slots, ret := .nothing,
                   donelog := s.donelog ++ [⟨.host, be16At bytes 0, .resolved reply⟩] }

/-- R165, R172: a verified frame whose key has a slot of the query destroys that slot, ends the query
and appends `DONE(OWN_QUERY, QCODE, Resolved(reply))`; nothing else changes. -/
def Obligations.ReplyResolvesQuerySlot : Prop :=
  ∀ (bytes : ByteString) (reply : Reply) (sl : Slot) (s : State), s.sess = .ready →
    frmDec Config.params.settings Config.params.limits bytes = some reply →
    4 ≤ bytes.length → s.slots.get (be16At bytes 0) = some sl → sl.owner = .query →
    ∃ t : State, exec (.corRx bytes) s = .next t ∧
      SlotTable.Destroyed s.slots t.slots (be16At bytes 0) ∧
      t = { s with slots := t.slots, qstate := .idle, ret := .nothing,
                   donelog := s.donelog ++ [⟨.query, s.qcode, .resolved reply⟩] }

/-- R168: an enabled COR.EXPIRE of a host slot destroys it and appends
`DONE(OWN_HOST, k, E_TIMEOUT)`; nothing else changes. -/
def Obligations.DeadlineTimesOutHostSlot : Prop :=
  ∀ (k : Key) (sl : Slot) (s : State), s.slots.get k = some sl → sl.deadline ≤ s.now →
    sl.owner = .host →
    ∃ t : State, exec (.corExpire k) s = .next t ∧ SlotTable.Destroyed s.slots t.slots k ∧
      t = { s with slots := t.slots, ret := .nothing,
                   donelog := s.donelog ++ [⟨.host, k, .timeout⟩] }

/-- R168, R173: an enabled COR.EXPIRE of the query's slot destroys it and records E_TIMEOUT; with
attempts left the unit backs off until NOW + T_BACKOFF_MS, after the last it completes the query with
`E_CMDFAIL(QATTEMPT, E_TIMEOUT)` and no further wait. Nothing else changes. -/
def Obligations.DeadlineFailsQueryAttempt : Prop :=
  ∀ (k : Key) (sl : Slot) (s : State), s.slots.get k = some sl → sl.deadline ≤ s.now →
    sl.owner = .query →
    ∃ t : State, exec (.corExpire k) s = .next t ∧ SlotTable.Destroyed s.slots t.slots k ∧
      t = (if s.qattempt < 3 then
        { s with slots := t.slots, ret := .nothing, qlasterr := .timeout, qstate := .backoff,
                 qbackoffUntil := s.now + Config.params.backoffMs }
      else
        { s with slots := t.slots, ret := .nothing, qlasterr := .timeout, qstate := .idle,
                 donelog := s.donelog ++ [⟨.query, s.qcode, .cmdFail s.qattempt .timeout⟩] })

/-- R169, R174: a timer step that is not enabled changes nothing: COR.EXPIRE of an absent slot or
before its deadline, QRY.RETRY outside Q_BACKOFF or before the backoff's end. That the model admits
such a step, with no effect, is its choice (log 20; R169 allows it for COR.EXPIRE). -/
def Obligations.DisabledTimerStepsChangeNothing : Prop :=
  ∀ (k : Key) (s : State),
    ((s.slots.get k = none ∨ ∃ sl, s.slots.get k = some sl ∧ s.now < sl.deadline) →
      exec (.corExpire k) s = .next { s with ret := .nothing }) ∧
    ((s.qstate ≠ .backoff ∨ s.now < s.qbackoffUntil) →
      exec .qryRetry s = .next { s with ret := .nothing })

/-- R220 (d), R165, R169: when a reply and the deadline of its slot are both due, either order is safe:
after the reply the timer is a no-op, after the timer the reply is an unexpected one. -/
def Obligations.ReplyAndDeadlineAreSafeInEitherOrder : Prop :=
  ∀ (bytes : ByteString) (reply : Reply) (sl : Slot) (s : State), s.sess = .ready →
    frmDec Config.params.settings Config.params.limits bytes = some reply →
    4 ≤ bytes.length → s.slots.get (be16At bytes 0) = some sl → sl.deadline ≤ s.now →
    (∃ t : State, exec (.corRx bytes) s = .next t ∧
      exec (.corExpire (be16At bytes 0)) t = .next { t with ret := .nothing }) ∧
    (∃ t : State, exec (.corExpire (be16At bytes 0)) s = .next t ∧
      exec (.corRx bytes) t =
        .next { t with evlog := t.evlog ++ [.unexpected (some (be16At bytes 0)) reply],
                       ret := .nothing })

/-- R165, R166: resolution is exactly once: a second copy of a delivered reply, whatever the first
did, finds no slot and is only logged. -/
def Obligations.SecondCopyOfReplyIsUnexpected : Prop :=
  ∀ (bytes : ByteString) (reply : Reply) (s : State), s.sess = .ready →
    frmDec Config.params.settings Config.params.limits bytes = some reply → 4 ≤ bytes.length →
    ∃ t : State, exec (.corRx bytes) s = .next t ∧
      exec (.corRx bytes) t =
        .next { t with evlog := t.evlog ++ [.unexpected (some (be16At bytes 0)) reply],
                       ret := .nothing }

/-- R29: a slot never changes after its creation; it is destroyed only by a verified frame with its key
or by a COR.EXPIRE at or after its deadline, which hand a host waiter exactly one completion; it is
created only by COR.WRITE of its key, or by the write of QCODE inside a query start or QRY.RETRY, with
deadline NOW + 1000. (The failure arm of the creating COR.WRITE destroys within its own step.) -/
def Obligations.SlotLifecycle : Prop :=
  ∀ (i : Instr) (s t : State) (k : Key), exec i s = .next t →
    (∀ sl sl', s.slots.get k = some sl → t.slots.get k = some sl' → sl' = sl) ∧
    (∀ sl, s.slots.get k = some sl → t.slots.get k = none →
      (∃ bytes reply, i = .corRx bytes ∧ s.sess = .ready ∧ be16At bytes 0 = k ∧
        frmDec Config.params.settings Config.params.limits bytes = some reply ∧
        (sl.owner = .host → t.donelog = s.donelog ++ [⟨.host, k, .resolved reply⟩])) ∨
      (i = .corExpire k ∧ sl.deadline ≤ s.now ∧
        (sl.owner = .host → t.donelog = s.donelog ++ [⟨.host, k, .timeout⟩]))) ∧
    (∀ sl, s.slots.get k = none → t.slots.get k = some sl →
      sl.key = k ∧ sl.deadline = s.now + 1000 ∧
      ((sl.owner = .host ∧ sl.attempt = 1 ∧ ∃ bytes, i = .corWrite k bytes) ∨
       (sl.owner = .query ∧ k = t.qcode ∧ sl.attempt = t.qattempt ∧
        (startsQuery i = true ∨ i = .qryRetry))))

/-! ## Query unit -/

/-- R170, R171, R31: QRY.START of an idle unit in a ready session whose write is accepted loads the query
registers, creates the slot of attempt 1 for the query, sends the frame once and waits; nothing else
changes and no result is returned yet. R31 says that it writes QBACKOFF_UNTIL and QLASTERR too and no rule
states what: that they take free values, of which no more is said here than that QLASTERR is not E_CRC
(90_conflicts C6), is the model's reading (log 27); `fresh` is the model's counter of them. -/
def Obligations.QueryStartSendsFirstAttempt : Prop :=
  ∀ (code : Key) (frame : ByteString) (s : State),
    s.qstate = .idle → s.sess = .ready → s.slots.get code = none → s.ans = .ok →
    ∃ (slots : SlotTable) (due : Nat) (cause : Err), cause ≠ .crc ∧
      exec (.qryStart code frame) s = .next (s.queryStarted code frame slots due cause) ∧
      SlotTable.Created s.slots slots code ⟨code, 1, s.now + 1000, .query⟩

/-- R170, R171, R173, R178: QRY.START outside S_READY completes at once with E_NOTREADY in DONELOG;
one whose first write is not accepted (a host's slot on the code, or a transport error) records the
cause and backs off; the slot table is as before, a frame stands in TXLOG only for the transport error,
and nothing else changes but the model's counter `fresh` (log 27). -/
def Obligations.QueryStartWithoutAcceptedWrite : Prop :=
  ∀ (code : Key) (frame : ByteString) (s : State), s.qstate = .idle →
    (s.sess ≠ .ready → exec (.qryStart code frame) s =
      .next { s with donelog := s.donelog ++ [⟨.query, code, .notReady⟩], ret := .nothing }) ∧
    (s.sess = .ready → s.slots.get code ≠ none → exec (.qryStart code frame) s =
      .next { s with qcode := code, qframe := frame, qattempt := 1, qlasterr := .busy,
                     qstate := .backoff, qbackoffUntil := s.now + Config.params.backoffMs,
                     fresh := s.fresh + 1, ret := .nothing }) ∧
    (s.sess = .ready → s.slots.get code = none → s.ans = .error → exec (.qryStart code frame) s =
      .next { s with qcode := code, qframe := frame, qattempt := 1, qlasterr := .transport,
                     txlog := s.txlog ++ [(frame, .error)],
                     qstate := .backoff, qbackoffUntil := s.now + Config.params.backoffMs,
                     fresh := s.fresh + 1, ret := .nothing })

/-- R175: while QBUSY every QRY.START and builder, whatever its code, is held: it waits at the head of
the host port and nothing else changes. That it waits there, and what `ret` says, is the model's form
of the hold (log 10). -/
def Obligations.BusyQueryUnitHoldsFurtherQueries : Prop :=
  ∀ (i : Instr) (s : State), startsQuery i = true → s.qstate ≠ .idle →
    exec i s = .next { s with
      env := { s.env with host := encode i :: s.env.host }, ret := .held } ∧
    decode (encode i) = .ok i

/-- R174, R171: an enabled QRY.RETRY whose write is accepted sends the same frame as the next attempt
and waits; nothing else changes. -/
def Obligations.RetrySendsSameFrameAgain : Prop :=
  ∀ s : State, s.qstate = .backoff → s.qbackoffUntil ≤ s.now → s.sess = .ready →
    s.slots.get s.qcode = none → s.ans = .ok →
    ∃ slots : SlotTable,
      exec .qryRetry s = .next (s.attemptSent s.qcode s.qframe (s.qattempt + 1) slots) ∧
      SlotTable.Created s.slots slots s.qcode
        ⟨s.qcode, s.qattempt + 1, s.now + 1000, .query⟩

/-- R174, R173, R223: an enabled QRY.RETRY whose write fails is an ordinary failed attempt: it counts,
and backs off again or, as the third, completes the query with E_CMDFAIL(3, cause). -/
def Obligations.FailedRetryConsumesAnAttempt : Prop :=
  ∀ (s : State) (cause : Err), s.qstate = .backoff → s.qbackoffUntil ≤ s.now → s.sess = .ready →
    (cause = .busy ∧ s.slots.get s.qcode ≠ none ∨
      cause = .transport ∧ s.slots.get s.qcode = none ∧ s.ans = .error) →
    let sent := if cause = .transport then s.txlog ++ [(s.qframe, .error)] else s.txlog
    (s.qattempt + 1 < 3 → exec .qryRetry s =
      .next { s with qattempt := s.qattempt + 1, qlasterr := cause, txlog := sent,
                     qbackoffUntil := s.now + Config.params.backoffMs, ret := .nothing }) ∧
    (s.qattempt + 1 = 3 → exec .qryRetry s =
      .next { s with qattempt := 3, qlasterr := cause, txlog := sent, qstate := .idle,
                     donelog := s.donelog ++ [⟨.query, s.qcode, .cmdFail 3 cause⟩],
                     ret := .nothing })

/-- R180: from a state that meets the invariant, an operation changes QSTATE only along the rows of the
transition table. -/
def Obligations.QStateFollowsTransitionTable : Prop :=
  ∀ (i : Instr) (s t : State), s.Inv → exec i s = .next t → t.qstate ≠ s.qstate →
    (s.qstate = .idle ∧ startsQuery i = true ∧ s.sess = .ready ∧ t.qattempt = 1 ∧
      (t.qstate = .wait ∧ t.txlog = s.txlog ++ [(t.qframe, .ok)] ∨
       t.qstate = .backoff ∧ t.slots = s.slots ∧
        t.qbackoffUntil = s.now + Config.params.backoffMs)) ∨
    (s.qstate = .wait ∧ t.qstate = .idle ∧ t.slots.get s.qcode = none ∧
      ∃ bytes reply, i = .corRx bytes ∧ be16At bytes 0 = s.qcode ∧
        frmDec Config.params.settings Config.params.limits bytes = some reply ∧
        t.donelog = s.donelog ++ [⟨.query, s.qcode, .resolved reply⟩]) ∨
    (s.qstate = .wait ∧ i = .corExpire s.qcode ∧ t.slots.get s.qcode = none ∧
      (s.qattempt < 3 ∧ t.qstate = .backoff ∧ t.donelog = s.donelog ∧
        t.qbackoffUntil = s.now + Config.params.backoffMs ∨
       s.qattempt = 3 ∧ t.qstate = .idle ∧
        t.donelog = s.donelog ++ [⟨.query, s.qcode, .cmdFail 3 .timeout⟩])) ∨
    (s.qstate = .backoff ∧ i = .qryRetry ∧ t.qattempt = s.qattempt + 1 ∧
      (t.qstate = .wait ∧ t.txlog = s.txlog ++ [(s.qframe, .ok)] ∨
       t.qstate = .idle ∧ t.qattempt = 3 ∧ t.slots = s.slots ∧
        ∃ cause, t.donelog = s.donelog ++ [⟨.query, s.qcode, .cmdFail 3 cause⟩]))

/-- R177 (e): from a state that meets the invariant, an operation delivers a completion of a query
exactly when it takes the unit back to Q_IDLE or refuses a query outside S_READY, and then exactly
one. -/
def Obligations.EveryQueryCompletesExactlyOnce : Prop :=
  ∀ (i : Instr) (s t : State), s.Inv → exec i s = .next t →
    t.queryDones = s.queryDones +
      (if (s.qstate ≠ .idle ∧ t.qstate = .idle) ∨
          (s.qstate = .idle ∧ s.sess ≠ .ready ∧ startsQuery i = true) then 1 else 0)

/-- R173, R176 and the source's S7, for one schedule: six turns with nothing interleaved, in which every
deadline and backoff is waited for and the transport takes every frame. A query of any code and frame
sends exactly three copies of its frame, fails with E_CMDFAIL(3, E_TIMEOUT), and leaves the slot table as
it found it, with no event logged (log 25). The six turns are the model's form of the steps (log 2);
`d0` to `d5` are the times between them, `a1`, `a3`, `a5` answers that nothing asks for. -/
def Obligations.UnansweredQueryFailsAfterThreeAttempts : Prop :=
  ∀ (c : Key) (f : ByteString) (d0 d1 d2 d3 d4 d5 : Nat) (a1 a3 a5 : Answer) (s : State),
    s.sess = .ready → s.qstate = .idle → s.slots.get c = none →
    1000 ≤ d1 → 1000 ≤ d3 → 1000 ≤ d5 →
    Config.params.backoffMs ≤ d2 → Config.params.backoffMs ≤ d4 →
    s.env.turns = [⟨.host, d0, .ok⟩, ⟨.timer, d1, a1⟩, ⟨.timer, d2, .ok⟩, ⟨.timer, d3, a3⟩,
      ⟨.timer, d4, .ok⟩, ⟨.timer, d5, a5⟩] →
    s.env.host = [encode (.qryStart c f)] →
    s.env.timer = [encode (.corExpire c), encode .qryRetry, encode (.corExpire c),
      encode .qryRetry, encode (.corExpire c)] →
    ∃ t : State, Sys2Proof.core.run 6 s = .next t ∧
      t.txlog = s.txlog ++ [(f, .ok), (f, .ok), (f, .ok)] ∧
      t.donelog = s.donelog ++ [⟨.query, c, .cmdFail 3 .timeout⟩] ∧
      t.slots = s.slots ∧ t.qstate = .idle ∧ t.sess = .ready ∧ t.evlog = s.evlog ∧
      t.now = s.now + d0 + d1 + d2 + d3 + d4 + d5 ∧
      s.now + d0 + (3 * 1000 + 2 * Config.params.backoffMs) ≤ t.now

/-! ## Command builders -/

/-- R190, R194 to R203: each of the ten builders, accepted (idle unit, ready session, free code,
transport ok), clamps and fills its template, encodes the frame, and does what QRY.START does with it:
one slot of the query, one frame sent, Q_WAIT, nothing else but the two query registers that take free
values, QLASTERR never E_CRC (the model's reading of R31, log 27). The bounds are the source's
in units of the setter's scale (R193). -/
def Obligations.AcceptedBuilderSendsItsFrame : Prop :=
  ∀ s : State, s.qstate = .idle → s.sess = .ready → s.ans = .ok →
    let P := Config.params
    let sends := fun (i : Instr) (code : Key) (payload : ByteString) =>
      s.slots.get code = none →
      ∃ (slots : SlotTable) (due : Nat) (cause : Err), cause ≠ .crc ∧
        exec i s = .next (s.queryStarted code (frmEnc code payload) slots due cause) ∧
        SlotTable.Created s.slots slots code ⟨code, 1, s.now + 1000, .query⟩
    let clamped := fun (v : Int) (hi scale : Nat) => (min (max v 0) (hi * scale : Nat)).toNat
    sends .cmdStatus P.status.code P.status.payload ∧
    sends .cmdLimits P.readLimits.code P.readLimits.payload ∧
    (∀ v, sends (.cmdSetv v) P.setv.code (P.setv.payload (clamped v 125 P.setv.scale))) ∧
    (∀ v, sends (.cmdSeti v) P.seti.code (P.seti.payload (clamped v 22 P.seti.scale))) ∧
    (∀ v, sends (.cmdSetbl v) P.setbl.code (P.setbl.payload (clamped v 5 P.setbl.scale))) ∧
    (∀ v, sends (.cmdSetbz v) P.setbz.code (P.setbz.payload (clamped v 1 P.setbz.scale))) ∧
    (∀ v, sends (.cmdSetto v) P.setto.code (P.setto.payload (clamped v 100000 P.setto.scale))) ∧
    sends .cmdOn P.on.code P.on.payload ∧
    sends .cmdOff P.off.code P.off.payload ∧
    sends .cmdRestart P.restart.code P.restart.payload

/-- R190: whatever the session, the slot on the code and the transport's answer, a builder presented to
an idle query unit does exactly what QRY.START does with its code and encoded frame. -/
def Obligations.BuilderExpandsToQueryStart : Prop :=
  ∀ s : State, s.qstate = .idle →
    let P := Config.params
    let expands := fun (i : Instr) (code : Key) (payload : ByteString) =>
      exec i s = exec (.qryStart code (frmEnc code payload)) s
    let clamped := fun (v : Int) (hi scale : Nat) => (min (max v 0) (hi * scale : Nat)).toNat
    expands .cmdStatus P.status.code P.status.payload ∧
    expands .cmdLimits P.readLimits.code P.readLimits.payload ∧
    (∀ v, expands (.cmdSetv v) P.setv.code (P.setv.payload (clamped v 125 P.setv.scale))) ∧
    (∀ v, expands (.cmdSeti v) P.seti.code (P.seti.payload (clamped v 22 P.seti.scale))) ∧
    (∀ v, expands (.cmdSetbl v) P.setbl.code (P.setbl.payload (clamped v 5 P.setbl.scale))) ∧
    (∀ v, expands (.cmdSetbz v) P.setbz.code (P.setbz.payload (clamped v 1 P.setbz.scale))) ∧
    (∀ v, expands (.cmdSetto v) P.setto.code (P.setto.payload (clamped v 100000 P.setto.scale))) ∧
    expands .cmdOn P.on.code P.on.payload ∧
    expands .cmdOff P.off.code P.off.payload ∧
    expands .cmdRestart P.restart.code P.restart.payload

/-- R192: `clamp(v, lo, hi)` is `lo` below `lo`, else `hi` above `hi`, else `v`, for all integers. -/
def Obligations.ClampReturnsBoundOrValue : Prop :=
  ∀ v lo hi : Int,
    (v < lo → clamp v lo hi = lo) ∧ (lo ≤ v → hi < v → clamp v lo hi = hi) ∧
    (lo ≤ v → v ≤ hi → clamp v lo hi = v)

/-- R205 (a), R191 (a), with an idle query unit: two operands of a setter behave alike exactly as far
as their clamps agree: equal clamps give equal steps (in particular at and beyond each bound), and
different clamps give different payloads, so nothing is silently truncated. -/
def Obligations.SettersDependOnlyOnClampedOperand : Prop :=
  ∀ (s : State) (v1 v2 : Int), s.qstate = .idle →
    let P := Config.params
    let law := fun (i : Int → Instr) (hi scale : Nat) (payload : Nat → ByteString) =>
      (clamp v1 0 (hi * scale : Nat) = clamp v2 0 (hi * scale : Nat) →
        exec (i v1) s = exec (i v2) s) ∧
      (v1 ≤ 0 → exec (i v1) s = exec (i 0) s) ∧
      ((hi * scale : Nat) ≤ v1 → exec (i v1) s = exec (i (hi * scale : Nat)) s) ∧
      (clamp v1 0 (hi * scale : Nat) ≠ clamp v2 0 (hi * scale : Nat) →
        payload (clamp v1 0 (hi * scale : Nat)).toNat ≠
          payload (clamp v2 0 (hi * scale : Nat)).toNat)
    law .cmdSetv 125 P.setv.scale P.setv.payload ∧
    law .cmdSeti 22 P.seti.scale P.seti.payload ∧
    law .cmdSetbl 5 P.setbl.scale P.setbl.payload ∧
    law .cmdSetbz 1 P.setbz.scale P.setbz.payload ∧
    law .cmdSetto 100000 P.setto.scale P.setto.payload

/-- R205 (b), (c), R177 (d): every frame that a builder hands to the transport verifies and begins with
the key under which the query waits; it hands over none only while it is held, outside S_READY, or when
its code is pending (R157 (a), R170, R175). From a state that meets the invariant, a query sends copies
of its own frame and nothing else, at most three in all: three bounds what its start sends and what is
left, and every later operation but a direct write sends no more than it takes off what is left. The
lower bound of (c) and (d) holds of a builder whose code is free when it starts, which sends at once; it
does not hold of one that E_NOTREADY (decision D21) or E_BUSY (decision D26) keeps from sending
(log 28). -/
def Obligations.BuildersSendVerifiedFramesAtMostThrice : Prop :=
  (∀ (i : Instr) (s t : State), startsQuery i = true → (∀ c f, i ≠ .qryStart c f) →
    exec i s = .next t →
      (t.txlog = s.txlog ∧
        (s.qstate ≠ .idle ∨ s.sess ≠ .ready ∨ s.slots.get t.qcode ≠ none)) ∨
      ∃ f a, t.txlog = s.txlog ++ [(f, a)] ∧ crcVfy f = true ∧ be16At f 0 = t.qcode ∧ t.qframe = f) ∧
  (∀ (i : Instr) (s t : State), s.Inv → (∀ c b, i ≠ .corWrite c b) → exec i s = .next t →
    ∃ sent : List (ByteString × Answer),
      t.txlog = s.txlog ++ sent ∧ (∀ e ∈ sent, e.1 = t.qframe) ∧
      sent.length + t.copiesLeft ≤
        (if startsQuery i = true ∧ s.qstate = .idle then 3 else s.copiesLeft) ∧
      (s.qstate ≠ .idle → t.qframe = s.qframe ∧ t.qcode = s.qcode))

/-! ## The engine as a whole -/

/-- R39, R251: what reset establishes. NOW and the registers that the spec leaves unspecified are not
mentioned; the model's own values for them are in logs 5 and 7. -/
def Obligations.ResetEstablishesInitialState : Prop :=
  State.reset.sess = .down ∧ (∀ k, State.reset.slots.get k = none) ∧ State.reset.slots = [] ∧
  State.reset.qstate = .idle ∧ State.reset.evlog = [] ∧ State.reset.txlog = [] ∧
  State.reset.donelog = []

/-- The invariant (R27, R28, R30, R177 (a) to (c), C6) holds at reset. Its clauses on the unit's registers
rest there on the model's reset values (log 7) only in that QLASTERR is not E_CRC. -/
def Obligations.InvariantHoldsAtReset : Prop := State.reset.Inv

/-- R27, R28, R29, R177 (a) to (c): every step keeps the invariant, from every state that meets it. -/
def Obligations.EveryStepKeepsInvariant : Prop :=
  ∀ s t : State, s.Inv → step s = .next t → t.Inv

/-- R33, R34, R42, R32: in every step the histories only grow at the end and NOW does not decrease; a
step hands at most one frame to the transport and delivers at most one completion. -/
def Obligations.HistoriesOnlyGrow : Prop :=
  ∀ s t : State, step s = .next t → s.Extends t ∧
    t.txlog.length ≤ s.txlog.length + 1 ∧ t.donelog.length ≤ s.donelog.length + 1 ∧
    t.evlog.length ≤ s.evlog.length + 1

/-- R178, R62: an operation leaves the slot of every key it does not concern as it was: a write
concerns its code, a timer its key, a verified frame its first byte pair, a query step QCODE. -/
def Obligations.OperationsTouchOnlyTheirOwnSlot : Prop :=
  ∀ (i : Instr) (s t : State) (k : Key), exec i s = .next t →
    (∀ c b, i = .corWrite c b → c ≠ k) → (∀ b, i = .corRx b → be16At b 0 ≠ k) →
    i ≠ .corExpire k → (startsQuery i = true ∨ i = .qryRetry → t.qcode ≠ k) →
    t.slots.get k = s.slots.get k

/-! ## Presenting, decoding, encoding -/

/-- R60 (1) in the model's form (log 2): when the next turn's agent presents a request that decodes to
a well-formed operation it may cause, the step is that operation, run with NOW advanced, the turn's
answer at hand, and the request gone from its port. -/
def Obligations.StepRunsPresentedOperation : Prop :=
  ∀ (s : State) (u : Turn) (rest : List Turn) (r : Request) (rs : List Request) (i : Instr),
    s.env.turns = u :: rest → s.env.port u.agent = r :: rs → decode r = .ok i →
    i.wellFormed = true → u.agent ∈ i.agents →
    step s = exec i { s with
      now := s.now + u.dt, ans := u.ans, env := ({ s.env with turns := rest }).setPort u.agent rs }

/-- R88: decoding the request that presents a well-formed operation gives the operation back, with
every operand. -/
def Obligations.DecodeInvertsEncode : Prop :=
  ∀ i : Instr, i.wellFormed = true → decode (encode i) = .ok i

/-- R88: the select code of every row of the table, written out, names its operation, with the operands
in the lanes of the row and whatever stands in the other lanes. -/
def Obligations.SelectWordsNameTheirOperations : Prop :=
  ∀ (b : ByteString) (k : Key) (n : Nat) (v : Int),
    decode ⟨.op, 0x01#8, b, k, n, v⟩ = .ok (.crcGen b) ∧
    decode ⟨.op, 0x02#8, b, k, n, v⟩ = .ok (.crcVfy b) ∧
    decode ⟨.op, 0x08#8, b, k, n, v⟩ = .ok (.fldU16 b n) ∧
    decode ⟨.op, 0x09#8, b, k, n, v⟩ = .ok (.fldAcc32 b n) ∧
    decode ⟨.op, 0x10#8, b, k, n, v⟩ = .ok (.frmEnc k b) ∧
    decode ⟨.op, 0x11#8, b, k, n, v⟩ = .ok (.frmDec b) ∧
    decode ⟨.opRpy, 0x11#8, b, k, n, v⟩ =
      .ok (if b[2]? = some 0x3C#8 then .frmDecSet b else if b[2]? = some 0x1C#8 then .frmDecLim b
        else .frmDecRaw b) ∧
    decode ⟨.op, 0x20#8, b, k, n, v⟩ = .ok (.sesConnect b) ∧
    decode ⟨.op, 0x21#8, b, k, n, v⟩ = .ok .sesSubscribe ∧
    decode ⟨.op, 0x30#8, b, k, n, v⟩ = .ok (.corWrite k b) ∧
    decode ⟨.op, 0x38#8, b, k, n, v⟩ = .ok (.qryStart k b) ∧
    decode ⟨.op, 0x40#8, b, k, n, v⟩ = .ok (.corRx b) ∧
    decode ⟨.op, 0x41#8, b, k, n, v⟩ = .ok (.corExpire k) ∧
    decode ⟨.op, 0x42#8, b, k, n, v⟩ = .ok .qryRetry ∧
    decode ⟨.op, 0x50#8, b, k, n, v⟩ = .ok .cmdStatus ∧
    decode ⟨.op, 0x51#8, b, k, n, v⟩ = .ok .cmdLimits ∧
    decode ⟨.op, 0x52#8, b, k, n, v⟩ = .ok (.cmdSetv v) ∧
    decode ⟨.op, 0x53#8, b, k, n, v⟩ = .ok (.cmdSeti v) ∧
    decode ⟨.op, 0x54#8, b, k, n, v⟩ = .ok (.cmdSetbl v) ∧
    decode ⟨.op, 0x55#8, b, k, n, v⟩ = .ok (.cmdSetbz v) ∧
    decode ⟨.op, 0x56#8, b, k, n, v⟩ = .ok (.cmdSetto v) ∧
    decode ⟨.op, 0x57#8, b, k, n, v⟩ = .ok .cmdOn ∧
    decode ⟨.op, 0x58#8, b, k, n, v⟩ = .ok .cmdOff ∧
    decode ⟨.op, 0x59#8, b, k, n, v⟩ = .ok .cmdRestart

/-- R86 (f), R218: a select code that R88 does not list, and a composite whose OPSEL is not FRM.DEC's
(R88 gives composites to its arms only), names no operation; presented on a port it is
answered with E_BADOP, the request and the turn are gone, and nothing else changes. That every agent's
port answers so is the model's choice (log 19). -/
def Obligations.UnlistedSelectCodeChangesNothing : Prop :=
  ∀ (s : State) (u : Turn) (rest : List Turn) (r : Request) (rs : List Request),
    s.env.turns = u :: rest → s.env.port u.agent = r :: rs →
    (r.format = .opRpy ∧ r.opsel ≠ 0x11#8) ∨
    (r.format = .op ∧ r.opsel.toNat ∉ [0x01, 0x02, 0x08, 0x09, 0x10, 0x11, 0x20, 0x21, 0x30, 0x38, 0x40,
      0x41, 0x42, 0x50, 0x51, 0x52, 0x53, 0x54, 0x55, 0x56, 0x57, 0x58, 0x59]) →
    step s = .next { s with
      now := s.now + u.dt, ans := u.ans, env := ({ s.env with turns := rest }).setPort u.agent rs,
      ret := .err .badOp }

/-- R230, R6: the host cannot inject COR.RX, COR.EXPIRE or QRY.RETRY, nor any other agent an operation
that is not its own. That the model refuses such a step is its choice (log 11). What may be taken as a
turn of the engine's own internal use changes nothing but the result; that there are such turns is the
model's choice (log 29). -/
def Obligations.NoAgentInjectsAnothersOperation : Prop :=
  (∀ (s : State) (u : Turn) (rest : List Turn) (r : Request) (rs : List Request) (i : Instr),
    s.env.turns = u :: rest → s.env.port u.agent = r :: rs → decode r = .ok i →
    u.agent ∉ i.agents → step s = .refused .wrongAgent) ∧
  (∀ c b, (Instr.corWrite c b).agents = [.host]) ∧ (∀ b, (Instr.corRx b).agents = [.inbound]) ∧
  (∀ k, (Instr.corExpire k).agents = [.timer]) ∧ Instr.qryRetry.agents = [.timer] ∧
  (∀ (i : Instr) (s t : State), .internal ∈ i.agents → exec i s = .next t →
    ∃ r : Ret, t = { s with ret := r })
end

