-- ==== Sys2Proof/Laws/Slots.lean ====
section
/-! SUPPORT. The slot table as a map: read after write, every write leaves other keys alone, and every
operation keeps the canonical form. -/
namespace Sys2Proof.Machine

@[simp] theorem SlotTable.get_nil (k : Key) : SlotTable.get [] k = none := rfl

theorem SlotTable.get_cons (e : Key × Slot) (t : SlotTable) (k : Key) :
    SlotTable.get (e :: t) k = if e.1 = k then some e.2 else SlotTable.get t k := rfl

theorem SlotTable.put_cons (e : Key × Slot) (t : SlotTable) (k : Key) (sl : Slot) :
    SlotTable.put (e :: t) k sl =
      if k = e.1 then (k, sl) :: t else if k < e.1 then (k, sl) :: e :: t
      else e :: SlotTable.put t k sl := rfl

/-- Reading the key just written gives the record written. -/
@[simp] theorem SlotTable.get_put_same (t : SlotTable) (k : Key) (sl : Slot) :
    (t.put k sl).get k = some sl := by
  induction t with
  | nil => simp [SlotTable.put, SlotTable.get]
  | cons e t ih =>
    rw [put_cons]
    split
    · simp [get_cons]
    · rename_i h
      split
      · simp [get_cons]
      · simp [get_cons, ih, Ne.symm h]

/-- Writing one key leaves every other key as it was. -/
theorem SlotTable.get_put_other {k k' : Key} (h : k' ≠ k) (t : SlotTable) (sl : Slot) :
    (t.put k sl).get k' = t.get k' := by
  induction t with
  | nil => simp [SlotTable.put, SlotTable.get, Ne.symm h]
  | cons e t ih =>
    rw [put_cons]
    split
    · rename_i hk
      simp [get_cons, ← hk, Ne.symm h]
    · split
      · simp [get_cons, Ne.symm h]
      · simp [get_cons, ih]

/-- A dropped key is absent. -/
@[simp] theorem SlotTable.get_drop_same (t : SlotTable) (k : Key) : (t.drop k).get k = none := by
  induction t with
  | nil => rfl
  | cons e t ih =>
    by_cases h : e.1 = k
    · simpa [SlotTable.drop, h] using ih
    · simpa [SlotTable.drop, h, get_cons] using ih

/-- Dropping one key leaves every other key as it was. -/
theorem SlotTable.get_drop_other {k k' : Key} (h : k' ≠ k) (t : SlotTable) :
    (t.drop k).get k' = t.get k' := by
  induction t with
  | nil => rfl
  | cons e t ih =>
    by_cases he : e.1 = k
    · simpa [SlotTable.drop, he, get_cons, Ne.symm h] using ih
    · by_cases he' : e.1 = k' <;> simp_all [SlotTable.drop, get_cons]

/-- Dropping keeps the canonical form. -/
theorem SlotTable.wf_drop {t : SlotTable} (h : SlotTable.wf t) (k : Key) :
    SlotTable.wf (t.drop k) := List.Pairwise.filter _ h

/-- Every key of a table after a write is the written one or was there before. -/
theorem SlotTable.mem_put {t : SlotTable} {k : Key} {sl : Slot} {e : Key × Slot}
    (h : e ∈ t.put k sl) : e = (k, sl) ∨ e ∈ t := by
  induction t with
  | nil => simpa [SlotTable.put] using h
  | cons d t ih =>
    rw [put_cons] at h
    split at h
    · rcases List.mem_cons.mp h with h | h
      · exact .inl h
      · exact .inr (List.mem_cons_of_mem _ h)
    · split at h
      · rcases List.mem_cons.mp h with h | h
        · exact .inl h
        · exact .inr h
      · rcases List.mem_cons.mp h with h | h
        · exact .inr (h ▸ List.mem_cons_self)
        · exact (ih h).imp_right (List.mem_cons_of_mem _)

/-- Writing keeps the canonical form. -/
theorem SlotTable.wf_put {t : SlotTable} (h : SlotTable.wf t) (k : Key) (sl : Slot) :
    SlotTable.wf (t.put k sl) := by
  induction t with
  | nil => simp [SlotTable.put, SlotTable.wf]
  | cons e t ih =>
    obtain ⟨he, ht⟩ := List.pairwise_cons.mp h
    rw [put_cons]
    split
    · rename_i hk
      exact List.pairwise_cons.mpr ⟨fun d hd => hk ▸ he d hd, ht⟩
    · split
      · rename_i hlt
        refine List.pairwise_cons.mpr ⟨fun d hd => ?_, h⟩
        rcases List.mem_cons.mp hd with rfl | hd
        · exact hlt
        · exact BitVec.lt_trans hlt (he d hd)
      · rename_i hne hnlt
        refine List.pairwise_cons.mpr ⟨fun d hd => ?_, ih ht⟩
        rcases mem_put hd with rfl | hd
        · exact BitVec.lt_of_le_ne (BitVec.not_lt.mp hnlt) (Ne.symm hne)
        · exact he d hd

/-- An absent key is in no entry of the table. -/
theorem SlotTable.not_mem_of_get_none {t : SlotTable} {k : Key} (h : t.get k = none) :
    ∀ e ∈ t, e.1 ≠ k := by
  induction t with
  | nil => simp
  | cons d t ih =>
    rw [get_cons] at h
    split at h
    · cases h
    · rename_i hd
      intro e he
      rcases List.mem_cons.mp he with rfl | he
      · exact hd
      · exact ih h e he

/-- Creating a slot and destroying it again leaves the table as it was (R159, R222). -/
theorem SlotTable.drop_put_of_absent {t : SlotTable} {k : Key} (h : t.get k = none) (sl : Slot) :
    (t.put k sl).drop k = t := by
  have hd : ∀ u : SlotTable, (∀ e ∈ u, e.1 ≠ k) → u.drop k = u := fun u hu =>
    List.filter_eq_self.mpr fun e he => by simpa using hu e he
  induction t with
  | nil => simp [SlotTable.put, SlotTable.drop]
  | cons e t ih =>
    have hall := not_mem_of_get_none h
    have hek : e.1 ≠ k := hall e List.mem_cons_self
    have ht : SlotTable.get t k = none := by simpa [get_cons, hek] using h
    rw [put_cons, if_neg (Ne.symm hek)]
    split
    · have := hd (e :: t) hall
      simpa [SlotTable.drop] using this
    · have := ih ht
      simp only [SlotTable.drop] at this ⊢
      simp [hek, this]

/-- A slot is in the table exactly when the key's read gives it, in a canonical table. -/
theorem SlotTable.mem_of_get {t : SlotTable} {k : Key} {sl : Slot} (h : t.get k = some sl) :
    (k, sl) ∈ t := by
  induction t with
  | nil => simp at h
  | cons e t ih =>
    rw [get_cons] at h
    split at h
    · rename_i he
      cases h
      simp [← he]
    · exact List.mem_cons_of_mem _ (ih h)

/-- An empty table has no slot, and only it. -/
theorem SlotTable.ne_nil_of_get {t : SlotTable} {k : Key} {sl : Slot} (h : t.get k = some sl) :
    t ≠ [] := by
  rintro rfl
  simp at h

theorem State.pending_iff (s : State) (k : Key) :
    s.pending k = true ↔ ∃ sl, s.slots.get k = some sl := by
  simp [State.pending, Option.isSome_iff_exists]

theorem State.not_pending_iff (s : State) (k : Key) :
    s.pending k = false ↔ s.slots.get k = none := by
  simp [State.pending]

end Sys2Proof.Machine
end

