-- ==== Sys2Proof/Laws/State.lean ====
section
/-! SUPPORT. What each named update does to each field of the state, once and by `rfl`, so that no
proof unfolds a record update. -/
namespace Sys2Proof.Machine

variable (s : State)

/-! ### `respond` -/

@[simp] theorem State.respond_sess (r : Ret) : (s.respond r).sess = s.sess := rfl
@[simp] theorem State.respond_slots (r : Ret) : (s.respond r).slots = s.slots := rfl
@[simp] theorem State.respond_qstate (r : Ret) : (s.respond r).qstate = s.qstate := rfl
@[simp] theorem State.respond_qcode (r : Ret) : (s.respond r).qcode = s.qcode := rfl
@[simp] theorem State.respond_qframe (r : Ret) : (s.respond r).qframe = s.qframe := rfl
@[simp] theorem State.respond_qattempt (r : Ret) : (s.respond r).qattempt = s.qattempt := rfl
@[simp] theorem State.respond_qbackoffUntil (r : Ret) : (s.respond r).qbackoffUntil = s.qbackoffUntil := rfl
@[simp] theorem State.respond_qlasterr (r : Ret) : (s.respond r).qlasterr = s.qlasterr := rfl
@[simp] theorem State.respond_evlog (r : Ret) : (s.respond r).evlog = s.evlog := rfl
@[simp] theorem State.respond_txlog (r : Ret) : (s.respond r).txlog = s.txlog := rfl
@[simp] theorem State.respond_donelog (r : Ret) : (s.respond r).donelog = s.donelog := rfl
@[simp] theorem State.respond_now (r : Ret) : (s.respond r).now = s.now := rfl
@[simp] theorem State.respond_ret (r : Ret) : (s.respond r).ret = r := rfl
@[simp] theorem State.respond_ans (r : Ret) : (s.respond r).ans = s.ans := rfl
@[simp] theorem State.respond_connlog (r : Ret) : (s.respond r).connlog = s.connlog := rfl
@[simp] theorem State.respond_fresh (r : Ret) : (s.respond r).fresh = s.fresh := rfl
@[simp] theorem State.respond_env (r : Ret) : (s.respond r).env = s.env := rfl

/-! ### `raise` -/

@[simp] theorem State.raise_sess (e : Err) (k : Option Key) : (s.raise e k).sess = s.sess := rfl
@[simp] theorem State.raise_slots (e : Err) (k : Option Key) : (s.raise e k).slots = s.slots := rfl
@[simp] theorem State.raise_qstate (e : Err) (k : Option Key) : (s.raise e k).qstate = s.qstate := rfl
@[simp] theorem State.raise_qcode (e : Err) (k : Option Key) : (s.raise e k).qcode = s.qcode := rfl
@[simp] theorem State.raise_qframe (e : Err) (k : Option Key) : (s.raise e k).qframe = s.qframe := rfl
@[simp] theorem State.raise_qattempt (e : Err) (k : Option Key) : (s.raise e k).qattempt = s.qattempt := rfl
@[simp] theorem State.raise_qbackoffUntil (e : Err) (k : Option Key) : (s.raise e k).qbackoffUntil = s.qbackoffUntil := rfl
@[simp] theorem State.raise_qlasterr (e : Err) (k : Option Key) : (s.raise e k).qlasterr = s.qlasterr := rfl
@[simp] theorem State.raise_evlog (e : Err) (k : Option Key) : (s.raise e k).evlog = s.evlog := rfl
@[simp] theorem State.raise_txlog (e : Err) (k : Option Key) : (s.raise e k).txlog = s.txlog := rfl
@[simp] theorem State.raise_donelog (e : Err) (k : Option Key) : (s.raise e k).donelog = s.donelog := rfl
@[simp] theorem State.raise_now (e : Err) (k : Option Key) : (s.raise e k).now = s.now := rfl
@[simp] theorem State.raise_ret (e : Err) (k : Option Key) : (s.raise e k).ret = .err e k := rfl
@[simp] theorem State.raise_ans (e : Err) (k : Option Key) : (s.raise e k).ans = s.ans := rfl
@[simp] theorem State.raise_connlog (e : Err) (k : Option Key) : (s.raise e k).connlog = s.connlog := rfl
@[simp] theorem State.raise_fresh (e : Err) (k : Option Key) : (s.raise e k).fresh = s.fresh := rfl
@[simp] theorem State.raise_env (e : Err) (k : Option Key) : (s.raise e k).env = s.env := rfl

/-! ### `setSess` -/

@[simp] theorem State.setSess_sess (x : Sess) : (s.setSess x).sess = x := rfl
@[simp] theorem State.setSess_slots (x : Sess) : (s.setSess x).slots = s.slots := rfl
@[simp] theorem State.setSess_qstate (x : Sess) : (s.setSess x).qstate = s.qstate := rfl
@[simp] theorem State.setSess_qcode (x : Sess) : (s.setSess x).qcode = s.qcode := rfl
@[simp] theorem State.setSess_qframe (x : Sess) : (s.setSess x).qframe = s.qframe := rfl
@[simp] theorem State.setSess_qattempt (x : Sess) : (s.setSess x).qattempt = s.qattempt := rfl
@[simp] theorem State.setSess_qbackoffUntil (x : Sess) : (s.setSess x).qbackoffUntil = s.qbackoffUntil := rfl
@[simp] theorem State.setSess_qlasterr (x : Sess) : (s.setSess x).qlasterr = s.qlasterr := rfl
@[simp] theorem State.setSess_evlog (x : Sess) : (s.setSess x).evlog = s.evlog := rfl
@[simp] theorem State.setSess_txlog (x : Sess) : (s.setSess x).txlog = s.txlog := rfl
@[simp] theorem State.setSess_donelog (x : Sess) : (s.setSess x).donelog = s.donelog := rfl
@[simp] theorem State.setSess_now (x : Sess) : (s.setSess x).now = s.now := rfl
@[simp] theorem State.setSess_ret (x : Sess) : (s.setSess x).ret = s.ret := rfl
@[simp] theorem State.setSess_ans (x : Sess) : (s.setSess x).ans = s.ans := rfl
@[simp] theorem State.setSess_connlog (x : Sess) : (s.setSess x).connlog = s.connlog := rfl
@[simp] theorem State.setSess_fresh (x : Sess) : (s.setSess x).fresh = s.fresh := rfl
@[simp] theorem State.setSess_env (x : Sess) : (s.setSess x).env = s.env := rfl

/-! ### `putSlot` -/

@[simp] theorem State.putSlot_sess (k : Key) (sl : Slot) : (s.putSlot k sl).sess = s.sess := rfl
@[simp] theorem State.putSlot_slots (k : Key) (sl : Slot) : (s.putSlot k sl).slots = s.slots.put k sl := rfl
@[simp] theorem State.putSlot_qstate (k : Key) (sl : Slot) : (s.putSlot k sl).qstate = s.qstate := rfl
@[simp] theorem State.putSlot_qcode (k : Key) (sl : Slot) : (s.putSlot k sl).qcode = s.qcode := rfl
@[simp] theorem State.putSlot_qframe (k : Key) (sl : Slot) : (s.putSlot k sl).qframe = s.qframe := rfl
@[simp] theorem State.putSlot_qattempt (k : Key) (sl : Slot) : (s.putSlot k sl).qattempt = s.qattempt := rfl
@[simp] theorem State.putSlot_qbackoffUntil (k : Key) (sl : Slot) : (s.putSlot k sl).qbackoffUntil = s.qbackoffUntil := rfl
@[simp] theorem State.putSlot_qlasterr (k : Key) (sl : Slot) : (s.putSlot k sl).qlasterr = s.qlasterr := rfl
@[simp] theorem State.putSlot_evlog (k : Key) (sl : Slot) : (s.putSlot k sl).evlog = s.evlog := rfl
@[simp] theorem State.putSlot_txlog (k : Key) (sl : Slot) : (s.putSlot k sl).txlog = s.txlog := rfl
@[simp] theorem State.putSlot_donelog (k : Key) (sl : Slot) : (s.putSlot k sl).donelog = s.donelog := rfl
@[simp] theorem State.putSlot_now (k : Key) (sl : Slot) : (s.putSlot k sl).now = s.now := rfl
@[simp] theorem State.putSlot_ret (k : Key) (sl : Slot) : (s.putSlot k sl).ret = s.ret := rfl
@[simp] theorem State.putSlot_ans (k : Key) (sl : Slot) : (s.putSlot k sl).ans = s.ans := rfl
@[simp] theorem State.putSlot_connlog (k : Key) (sl : Slot) : (s.putSlot k sl).connlog = s.connlog := rfl
@[simp] theorem State.putSlot_fresh (k : Key) (sl : Slot) : (s.putSlot k sl).fresh = s.fresh := rfl
@[simp] theorem State.putSlot_env (k : Key) (sl : Slot) : (s.putSlot k sl).env = s.env := rfl

/-! ### `dropSlot` -/

@[simp] theorem State.dropSlot_sess (k : Key) : (s.dropSlot k).sess = s.sess := rfl
@[simp] theorem State.dropSlot_slots (k : Key) : (s.dropSlot k).slots = s.slots.drop k := rfl
@[simp] theorem State.dropSlot_qstate (k : Key) : (s.dropSlot k).qstate = s.qstate := rfl
@[simp] theorem State.dropSlot_qcode (k : Key) : (s.dropSlot k).qcode = s.qcode := rfl
@[simp] theorem State.dropSlot_qframe (k : Key) : (s.dropSlot k).qframe = s.qframe := rfl
@[simp] theorem State.dropSlot_qattempt (k : Key) : (s.dropSlot k).qattempt = s.qattempt := rfl
@[simp] theorem State.dropSlot_qbackoffUntil (k : Key) : (s.dropSlot k).qbackoffUntil = s.qbackoffUntil := rfl
@[simp] theorem State.dropSlot_qlasterr (k : Key) : (s.dropSlot k).qlasterr = s.qlasterr := rfl
@[simp] theorem State.dropSlot_evlog (k : Key) : (s.dropSlot k).evlog = s.evlog := rfl
@[simp] theorem State.dropSlot_txlog (k : Key) : (s.dropSlot k).txlog = s.txlog := rfl
@[simp] theorem State.dropSlot_donelog (k : Key) : (s.dropSlot k).donelog = s.donelog := rfl
@[simp] theorem State.dropSlot_now (k : Key) : (s.dropSlot k).now = s.now := rfl
@[simp] theorem State.dropSlot_ret (k : Key) : (s.dropSlot k).ret = s.ret := rfl
@[simp] theorem State.dropSlot_ans (k : Key) : (s.dropSlot k).ans = s.ans := rfl
@[simp] theorem State.dropSlot_connlog (k : Key) : (s.dropSlot k).connlog = s.connlog := rfl
@[simp] theorem State.dropSlot_fresh (k : Key) : (s.dropSlot k).fresh = s.fresh := rfl
@[simp] theorem State.dropSlot_env (k : Key) : (s.dropSlot k).env = s.env := rfl

/-! ### `setQState` -/

@[simp] theorem State.setQState_sess (x : QState) : (s.setQState x).sess = s.sess := rfl
@[simp] theorem State.setQState_slots (x : QState) : (s.setQState x).slots = s.slots := rfl
@[simp] theorem State.setQState_qstate (x : QState) : (s.setQState x).qstate = x := rfl
@[simp] theorem State.setQState_qcode (x : QState) : (s.setQState x).qcode = s.qcode := rfl
@[simp] theorem State.setQState_qframe (x : QState) : (s.setQState x).qframe = s.qframe := rfl
@[simp] theorem State.setQState_qattempt (x : QState) : (s.setQState x).qattempt = s.qattempt := rfl
@[simp] theorem State.setQState_qbackoffUntil (x : QState) : (s.setQState x).qbackoffUntil = s.qbackoffUntil := rfl
@[simp] theorem State.setQState_qlasterr (x : QState) : (s.setQState x).qlasterr = s.qlasterr := rfl
@[simp] theorem State.setQState_evlog (x : QState) : (s.setQState x).evlog = s.evlog := rfl
@[simp] theorem State.setQState_txlog (x : QState) : (s.setQState x).txlog = s.txlog := rfl
@[simp] theorem State.setQState_donelog (x : QState) : (s.setQState x).donelog = s.donelog := rfl
@[simp] theorem State.setQState_now (x : QState) : (s.setQState x).now = s.now := rfl
@[simp] theorem State.setQState_ret (x : QState) : (s.setQState x).ret = s.ret := rfl
@[simp] theorem State.setQState_ans (x : QState) : (s.setQState x).ans = s.ans := rfl
@[simp] theorem State.setQState_connlog (x : QState) : (s.setQState x).connlog = s.connlog := rfl
@[simp] theorem State.setQState_fresh (x : QState) : (s.setQState x).fresh = s.fresh := rfl
@[simp] theorem State.setQState_env (x : QState) : (s.setQState x).env = s.env := rfl

/-! ### `loadQuery` -/

@[simp] theorem State.loadQuery_sess (c : Key) (f : ByteString) : (s.loadQuery c f).sess = s.sess := rfl
@[simp] theorem State.loadQuery_slots (c : Key) (f : ByteString) : (s.loadQuery c f).slots = s.slots := rfl
@[simp] theorem State.loadQuery_qstate (c : Key) (f : ByteString) : (s.loadQuery c f).qstate = s.qstate := rfl
@[simp] theorem State.loadQuery_qcode (c : Key) (f : ByteString) : (s.loadQuery c f).qcode = c := rfl
@[simp] theorem State.loadQuery_qframe (c : Key) (f : ByteString) : (s.loadQuery c f).qframe = f := rfl
@[simp] theorem State.loadQuery_qattempt (c : Key) (f : ByteString) : (s.loadQuery c f).qattempt = 1 := rfl
@[simp] theorem State.loadQuery_qbackoffUntil (c : Key) (f : ByteString) : (s.loadQuery c f).qbackoffUntil =
    Config.freeBackoffUntil s.fresh := rfl
@[simp] theorem State.loadQuery_qlasterr (c : Key) (f : ByteString) : (s.loadQuery c f).qlasterr =
    (Config.freeLastErr s.fresh).err := rfl
@[simp] theorem State.loadQuery_evlog (c : Key) (f : ByteString) : (s.loadQuery c f).evlog = s.evlog := rfl
@[simp] theorem State.loadQuery_txlog (c : Key) (f : ByteString) : (s.loadQuery c f).txlog = s.txlog := rfl
@[simp] theorem State.loadQuery_donelog (c : Key) (f : ByteString) : (s.loadQuery c f).donelog = s.donelog := rfl
@[simp] theorem State.loadQuery_now (c : Key) (f : ByteString) : (s.loadQuery c f).now = s.now := rfl
@[simp] theorem State.loadQuery_ret (c : Key) (f : ByteString) : (s.loadQuery c f).ret = s.ret := rfl
@[simp] theorem State.loadQuery_ans (c : Key) (f : ByteString) : (s.loadQuery c f).ans = s.ans := rfl
@[simp] theorem State.loadQuery_connlog (c : Key) (f : ByteString) : (s.loadQuery c f).connlog = s.connlog := rfl
@[simp] theorem State.loadQuery_fresh (c : Key) (f : ByteString) : (s.loadQuery c f).fresh = s.fresh + 1 := rfl
@[simp] theorem State.loadQuery_env (c : Key) (f : ByteString) : (s.loadQuery c f).env = s.env := rfl

/-! ### `setAttempt` -/

@[simp] theorem State.setAttempt_sess (n : Nat) : (s.setAttempt n).sess = s.sess := rfl
@[simp] theorem State.setAttempt_slots (n : Nat) : (s.setAttempt n).slots = s.slots := rfl
@[simp] theorem State.setAttempt_qstate (n : Nat) : (s.setAttempt n).qstate = s.qstate := rfl
@[simp] theorem State.setAttempt_qcode (n : Nat) : (s.setAttempt n).qcode = s.qcode := rfl
@[simp] theorem State.setAttempt_qframe (n : Nat) : (s.setAttempt n).qframe = s.qframe := rfl
@[simp] theorem State.setAttempt_qattempt (n : Nat) : (s.setAttempt n).qattempt = n := rfl
@[simp] theorem State.setAttempt_qbackoffUntil (n : Nat) : (s.setAttempt n).qbackoffUntil = s.qbackoffUntil := rfl
@[simp] theorem State.setAttempt_qlasterr (n : Nat) : (s.setAttempt n).qlasterr = s.qlasterr := rfl
@[simp] theorem State.setAttempt_evlog (n : Nat) : (s.setAttempt n).evlog = s.evlog := rfl
@[simp] theorem State.setAttempt_txlog (n : Nat) : (s.setAttempt n).txlog = s.txlog := rfl
@[simp] theorem State.setAttempt_donelog (n : Nat) : (s.setAttempt n).donelog = s.donelog := rfl
@[simp] theorem State.setAttempt_now (n : Nat) : (s.setAttempt n).now = s.now := rfl
@[simp] theorem State.setAttempt_ret (n : Nat) : (s.setAttempt n).ret = s.ret := rfl
@[simp] theorem State.setAttempt_ans (n : Nat) : (s.setAttempt n).ans = s.ans := rfl
@[simp] theorem State.setAttempt_connlog (n : Nat) : (s.setAttempt n).connlog = s.connlog := rfl
@[simp] theorem State.setAttempt_fresh (n : Nat) : (s.setAttempt n).fresh = s.fresh := rfl
@[simp] theorem State.setAttempt_env (n : Nat) : (s.setAttempt n).env = s.env := rfl

/-! ### `setLastErr` -/

@[simp] theorem State.setLastErr_sess (e : Err) : (s.setLastErr e).sess = s.sess := rfl
@[simp] theorem State.setLastErr_slots (e : Err) : (s.setLastErr e).slots = s.slots := rfl
@[simp] theorem State.setLastErr_qstate (e : Err) : (s.setLastErr e).qstate = s.qstate := rfl
@[simp] theorem State.setLastErr_qcode (e : Err) : (s.setLastErr e).qcode = s.qcode := rfl
@[simp] theorem State.setLastErr_qframe (e : Err) : (s.setLastErr e).qframe = s.qframe := rfl
@[simp] theorem State.setLastErr_qattempt (e : Err) : (s.setLastErr e).qattempt = s.qattempt := rfl
@[simp] theorem State.setLastErr_qbackoffUntil (e : Err) : (s.setLastErr e).qbackoffUntil = s.qbackoffUntil := rfl
@[simp] theorem State.setLastErr_qlasterr (e : Err) : (s.setLastErr e).qlasterr = e := rfl
@[simp] theorem State.setLastErr_evlog (e : Err) : (s.setLastErr e).evlog = s.evlog := rfl
@[simp] theorem State.setLastErr_txlog (e : Err) : (s.setLastErr e).txlog = s.txlog := rfl
@[simp] theorem State.setLastErr_donelog (e : Err) : (s.setLastErr e).donelog = s.donelog := rfl
@[simp] theorem State.setLastErr_now (e : Err) : (s.setLastErr e).now = s.now := rfl
@[simp] theorem State.setLastErr_ret (e : Err) : (s.setLastErr e).ret = s.ret := rfl
@[simp] theorem State.setLastErr_ans (e : Err) : (s.setLastErr e).ans = s.ans := rfl
@[simp] theorem State.setLastErr_connlog (e : Err) : (s.setLastErr e).connlog = s.connlog := rfl
@[simp] theorem State.setLastErr_fresh (e : Err) : (s.setLastErr e).fresh = s.fresh := rfl
@[simp] theorem State.setLastErr_env (e : Err) : (s.setLastErr e).env = s.env := rfl

/-! ### `setBackoffUntil` -/

@[simp] theorem State.setBackoffUntil_sess (t : Nat) : (s.setBackoffUntil t).sess = s.sess := rfl
@[simp] theorem State.setBackoffUntil_slots (t : Nat) : (s.setBackoffUntil t).slots = s.slots := rfl
@[simp] theorem State.setBackoffUntil_qstate (t : Nat) : (s.setBackoffUntil t).qstate = s.qstate := rfl
@[simp] theorem State.setBackoffUntil_qcode (t : Nat) : (s.setBackoffUntil t).qcode = s.qcode := rfl
@[simp] theorem State.setBackoffUntil_qframe (t : Nat) : (s.setBackoffUntil t).qframe = s.qframe := rfl
@[simp] theorem State.setBackoffUntil_qattempt (t : Nat) : (s.setBackoffUntil t).qattempt = s.qattempt := rfl
@[simp] theorem State.setBackoffUntil_qbackoffUntil (t : Nat) : (s.setBackoffUntil t).qbackoffUntil = t := rfl
@[simp] theorem State.setBackoffUntil_qlasterr (t : Nat) : (s.setBackoffUntil t).qlasterr = s.qlasterr := rfl
@[simp] theorem State.setBackoffUntil_evlog (t : Nat) : (s.setBackoffUntil t).evlog = s.evlog := rfl
@[simp] theorem State.setBackoffUntil_txlog (t : Nat) : (s.setBackoffUntil t).txlog = s.txlog := rfl
@[simp] theorem State.setBackoffUntil_donelog (t : Nat) : (s.setBackoffUntil t).donelog = s.donelog := rfl
@[simp] theorem State.setBackoffUntil_now (t : Nat) : (s.setBackoffUntil t).now = s.now := rfl
@[simp] theorem State.setBackoffUntil_ret (t : Nat) : (s.setBackoffUntil t).ret = s.ret := rfl
@[simp] theorem State.setBackoffUntil_ans (t : Nat) : (s.setBackoffUntil t).ans = s.ans := rfl
@[simp] theorem State.setBackoffUntil_connlog (t : Nat) : (s.setBackoffUntil t).connlog = s.connlog := rfl
@[simp] theorem State.setBackoffUntil_fresh (t : Nat) : (s.setBackoffUntil t).fresh = s.fresh := rfl
@[simp] theorem State.setBackoffUntil_env (t : Nat) : (s.setBackoffUntil t).env = s.env := rfl

/-! ### `logEvent` -/

@[simp] theorem State.logEvent_sess (e : Event) : (s.logEvent e).sess = s.sess := rfl
@[simp] theorem State.logEvent_slots (e : Event) : (s.logEvent e).slots = s.slots := rfl
@[simp] theorem State.logEvent_qstate (e : Event) : (s.logEvent e).qstate = s.qstate := rfl
@[simp] theorem State.logEvent_qcode (e : Event) : (s.logEvent e).qcode = s.qcode := rfl
@[simp] theorem State.logEvent_qframe (e : Event) : (s.logEvent e).qframe = s.qframe := rfl
@[simp] theorem State.logEvent_qattempt (e : Event) : (s.logEvent e).qattempt = s.qattempt := rfl
@[simp] theorem State.logEvent_qbackoffUntil (e : Event) : (s.logEvent e).qbackoffUntil = s.qbackoffUntil := rfl
@[simp] theorem State.logEvent_qlasterr (e : Event) : (s.logEvent e).qlasterr = s.qlasterr := rfl
@[simp] theorem State.logEvent_evlog (e : Event) : (s.logEvent e).evlog = s.evlog ++ [e] := rfl
@[simp] theorem State.logEvent_txlog (e : Event) : (s.logEvent e).txlog = s.txlog := rfl
@[simp] theorem State.logEvent_donelog (e : Event) : (s.logEvent e).donelog = s.donelog := rfl
@[simp] theorem State.logEvent_now (e : Event) : (s.logEvent e).now = s.now := rfl
@[simp] theorem State.logEvent_ret (e : Event) : (s.logEvent e).ret = s.ret := rfl
@[simp] theorem State.logEvent_ans (e : Event) : (s.logEvent e).ans = s.ans := rfl
@[simp] theorem State.logEvent_connlog (e : Event) : (s.logEvent e).connlog = s.connlog := rfl
@[simp] theorem State.logEvent_fresh (e : Event) : (s.logEvent e).fresh = s.fresh := rfl
@[simp] theorem State.logEvent_env (e : Event) : (s.logEvent e).env = s.env := rfl

/-! ### `emitTx` -/

@[simp] theorem State.emitTx_sess (b : ByteString) : (s.emitTx b).sess = s.sess := rfl
@[simp] theorem State.emitTx_slots (b : ByteString) : (s.emitTx b).slots = s.slots := rfl
@[simp] theorem State.emitTx_qstate (b : ByteString) : (s.emitTx b).qstate = s.qstate := rfl
@[simp] theorem State.emitTx_qcode (b : ByteString) : (s.emitTx b).qcode = s.qcode := rfl
@[simp] theorem State.emitTx_qframe (b : ByteString) : (s.emitTx b).qframe = s.qframe := rfl
@[simp] theorem State.emitTx_qattempt (b : ByteString) : (s.emitTx b).qattempt = s.qattempt := rfl
@[simp] theorem State.emitTx_qbackoffUntil (b : ByteString) : (s.emitTx b).qbackoffUntil = s.qbackoffUntil := rfl
@[simp] theorem State.emitTx_qlasterr (b : ByteString) : (s.emitTx b).qlasterr = s.qlasterr := rfl
@[simp] theorem State.emitTx_evlog (b : ByteString) : (s.emitTx b).evlog = s.evlog := rfl
@[simp] theorem State.emitTx_txlog (b : ByteString) : (s.emitTx b).txlog = s.txlog ++ [(b, s.ans)] := rfl
@[simp] theorem State.emitTx_donelog (b : ByteString) : (s.emitTx b).donelog = s.donelog := rfl
@[simp] theorem State.emitTx_now (b : ByteString) : (s.emitTx b).now = s.now := rfl
@[simp] theorem State.emitTx_ret (b : ByteString) : (s.emitTx b).ret = s.ret := rfl
@[simp] theorem State.emitTx_ans (b : ByteString) : (s.emitTx b).ans = s.ans := rfl
@[simp] theorem State.emitTx_connlog (b : ByteString) : (s.emitTx b).connlog = s.connlog := rfl
@[simp] theorem State.emitTx_fresh (b : ByteString) : (s.emitTx b).fresh = s.fresh := rfl
@[simp] theorem State.emitTx_env (b : ByteString) : (s.emitTx b).env = s.env := rfl

/-! ### `emitConnect` -/

@[simp] theorem State.emitConnect_sess (a : Address) : (s.emitConnect a).sess = s.sess := rfl
@[simp] theorem State.emitConnect_slots (a : Address) : (s.emitConnect a).slots = s.slots := rfl
@[simp] theorem State.emitConnect_qstate (a : Address) : (s.emitConnect a).qstate = s.qstate := rfl
@[simp] theorem State.emitConnect_qcode (a : Address) : (s.emitConnect a).qcode = s.qcode := rfl
@[simp] theorem State.emitConnect_qframe (a : Address) : (s.emitConnect a).qframe = s.qframe := rfl
@[simp] theorem State.emitConnect_qattempt (a : Address) : (s.emitConnect a).qattempt = s.qattempt := rfl
@[simp] theorem State.emitConnect_qbackoffUntil (a : Address) : (s.emitConnect a).qbackoffUntil = s.qbackoffUntil := rfl
@[simp] theorem State.emitConnect_qlasterr (a : Address) : (s.emitConnect a).qlasterr = s.qlasterr := rfl
@[simp] theorem State.emitConnect_evlog (a : Address) : (s.emitConnect a).evlog = s.evlog := rfl
@[simp] theorem State.emitConnect_txlog (a : Address) : (s.emitConnect a).txlog = s.txlog := rfl
@[simp] theorem State.emitConnect_donelog (a : Address) : (s.emitConnect a).donelog = s.donelog := rfl
@[simp] theorem State.emitConnect_now (a : Address) : (s.emitConnect a).now = s.now := rfl
@[simp] theorem State.emitConnect_ret (a : Address) : (s.emitConnect a).ret = s.ret := rfl
@[simp] theorem State.emitConnect_ans (a : Address) : (s.emitConnect a).ans = s.ans := rfl
@[simp] theorem State.emitConnect_connlog (a : Address) : (s.emitConnect a).connlog = s.connlog ++ [(a, s.ans)] := rfl
@[simp] theorem State.emitConnect_fresh (a : Address) : (s.emitConnect a).fresh = s.fresh := rfl
@[simp] theorem State.emitConnect_env (a : Address) : (s.emitConnect a).env = s.env := rfl

/-! ### `complete` -/

@[simp] theorem State.complete_sess (o : Owner) (k : Key) (c : Completion) : (s.complete o k c).sess = s.sess := rfl
@[simp] theorem State.complete_slots (o : Owner) (k : Key) (c : Completion) : (s.complete o k c).slots = s.slots := rfl
@[simp] theorem State.complete_qstate (o : Owner) (k : Key) (c : Completion) : (s.complete o k c).qstate = s.qstate := rfl
@[simp] theorem State.complete_qcode (o : Owner) (k : Key) (c : Completion) : (s.complete o k c).qcode = s.qcode := rfl
@[simp] theorem State.complete_qframe (o : Owner) (k : Key) (c : Completion) : (s.complete o k c).qframe = s.qframe := rfl
@[simp] theorem State.complete_qattempt (o : Owner) (k : Key) (c : Completion) : (s.complete o k c).qattempt = s.qattempt := rfl
@[simp] theorem State.complete_qbackoffUntil (o : Owner) (k : Key) (c : Completion) : (s.complete o k c).qbackoffUntil = s.qbackoffUntil := rfl
@[simp] theorem State.complete_qlasterr (o : Owner) (k : Key) (c : Completion) : (s.complete o k c).qlasterr = s.qlasterr := rfl
@[simp] theorem State.complete_evlog (o : Owner) (k : Key) (c : Completion) : (s.complete o k c).evlog = s.evlog := rfl
@[simp] theorem State.complete_txlog (o : Owner) (k : Key) (c : Completion) : (s.complete o k c).txlog = s.txlog := rfl
@[simp] theorem State.complete_donelog (o : Owner) (k : Key) (c : Completion) : (s.complete o k c).donelog = s.donelog ++ [⟨o, k, c⟩] := rfl
@[simp] theorem State.complete_now (o : Owner) (k : Key) (c : Completion) : (s.complete o k c).now = s.now := rfl
@[simp] theorem State.complete_ret (o : Owner) (k : Key) (c : Completion) : (s.complete o k c).ret = s.ret := rfl
@[simp] theorem State.complete_ans (o : Owner) (k : Key) (c : Completion) : (s.complete o k c).ans = s.ans := rfl
@[simp] theorem State.complete_connlog (o : Owner) (k : Key) (c : Completion) : (s.complete o k c).connlog = s.connlog := rfl
@[simp] theorem State.complete_fresh (o : Owner) (k : Key) (c : Completion) : (s.complete o k c).fresh = s.fresh := rfl
@[simp] theorem State.complete_env (o : Owner) (k : Key) (c : Completion) : (s.complete o k c).env = s.env := rfl

/-! ### `setEnv` -/

@[simp] theorem State.setEnv_sess (e : Env) : (s.setEnv e).sess = s.sess := rfl
@[simp] theorem State.setEnv_slots (e : Env) : (s.setEnv e).slots = s.slots := rfl
@[simp] theorem State.setEnv_qstate (e : Env) : (s.setEnv e).qstate = s.qstate := rfl
@[simp] theorem State.setEnv_qcode (e : Env) : (s.setEnv e).qcode = s.qcode := rfl
@[simp] theorem State.setEnv_qframe (e : Env) : (s.setEnv e).qframe = s.qframe := rfl
@[simp] theorem State.setEnv_qattempt (e : Env) : (s.setEnv e).qattempt = s.qattempt := rfl
@[simp] theorem State.setEnv_qbackoffUntil (e : Env) : (s.setEnv e).qbackoffUntil = s.qbackoffUntil := rfl
@[simp] theorem State.setEnv_qlasterr (e : Env) : (s.setEnv e).qlasterr = s.qlasterr := rfl
@[simp] theorem State.setEnv_evlog (e : Env) : (s.setEnv e).evlog = s.evlog := rfl
@[simp] theorem State.setEnv_txlog (e : Env) : (s.setEnv e).txlog = s.txlog := rfl
@[simp] theorem State.setEnv_donelog (e : Env) : (s.setEnv e).donelog = s.donelog := rfl
@[simp] theorem State.setEnv_now (e : Env) : (s.setEnv e).now = s.now := rfl
@[simp] theorem State.setEnv_ret (e : Env) : (s.setEnv e).ret = s.ret := rfl
@[simp] theorem State.setEnv_ans (e : Env) : (s.setEnv e).ans = s.ans := rfl
@[simp] theorem State.setEnv_connlog (e : Env) : (s.setEnv e).connlog = s.connlog := rfl
@[simp] theorem State.setEnv_fresh (e : Env) : (s.setEnv e).fresh = s.fresh := rfl
@[simp] theorem State.setEnv_env (e : Env) : (s.setEnv e).env = e := rfl

/-! ### `beginTurn` -/

@[simp] theorem State.beginTurn_sess (t : Turn) (r : List Turn) : (s.beginTurn t r).sess = s.sess := rfl
@[simp] theorem State.beginTurn_slots (t : Turn) (r : List Turn) : (s.beginTurn t r).slots = s.slots := rfl
@[simp] theorem State.beginTurn_qstate (t : Turn) (r : List Turn) : (s.beginTurn t r).qstate = s.qstate := rfl
@[simp] theorem State.beginTurn_qcode (t : Turn) (r : List Turn) : (s.beginTurn t r).qcode = s.qcode := rfl
@[simp] theorem State.beginTurn_qframe (t : Turn) (r : List Turn) : (s.beginTurn t r).qframe = s.qframe := rfl
@[simp] theorem State.beginTurn_qattempt (t : Turn) (r : List Turn) : (s.beginTurn t r).qattempt = s.qattempt := rfl
@[simp] theorem State.beginTurn_qbackoffUntil (t : Turn) (r : List Turn) : (s.beginTurn t r).qbackoffUntil = s.qbackoffUntil := rfl
@[simp] theorem State.beginTurn_qlasterr (t : Turn) (r : List Turn) : (s.beginTurn t r).qlasterr = s.qlasterr := rfl
@[simp] theorem State.beginTurn_evlog (t : Turn) (r : List Turn) : (s.beginTurn t r).evlog = s.evlog := rfl
@[simp] theorem State.beginTurn_txlog (t : Turn) (r : List Turn) : (s.beginTurn t r).txlog = s.txlog := rfl
@[simp] theorem State.beginTurn_donelog (t : Turn) (r : List Turn) : (s.beginTurn t r).donelog = s.donelog := rfl
@[simp] theorem State.beginTurn_now (t : Turn) (r : List Turn) : (s.beginTurn t r).now = s.now + t.dt := rfl
@[simp] theorem State.beginTurn_ret (t : Turn) (r : List Turn) : (s.beginTurn t r).ret = s.ret := rfl
@[simp] theorem State.beginTurn_ans (t : Turn) (r : List Turn) : (s.beginTurn t r).ans = t.ans := rfl
@[simp] theorem State.beginTurn_connlog (t : Turn) (r : List Turn) : (s.beginTurn t r).connlog = s.connlog := rfl
@[simp] theorem State.beginTurn_fresh (t : Turn) (r : List Turn) : (s.beginTurn t r).fresh = s.fresh := rfl
@[simp] theorem State.beginTurn_env (t : Turn) (r : List Turn) : (s.beginTurn t r).env = { s.env with turns := r } := rfl

/-! ### Reset -/

@[simp] theorem State.reset_slots : State.reset.slots = [] := rfl
@[simp] theorem State.reset_qstate : State.reset.qstate = .idle := rfl
@[simp] theorem State.reset_sess : State.reset.sess = .down := rfl

end Sys2Proof.Machine
end

