-- ==== Sys2Proof/Laws/Ops.lean ====
section
/-! SUPPORT. For each shared operation, once, everything it can do; proofs cite these instead of
unfolding the operation. -/
namespace Sys2Proof.Machine

/-- A row of either schema stands in the data region (R72). -/
theorem dataOffset_le {S : Schema} (h : S.inData = true) {row : SchemaRow} (hr : row ∈ S) :
    dataOffset ≤ row.off :=
  of_decide_eq_true (List.all_eq_true.mp h row hr)

/-- An operation on a frame (R8, R58): it is what it would be unbounded, or the bound is exceeded. -/
theorem withinFrame_cases (max : Option Nat) (n : Nat) (out : Host.Outcome State Fault Refusal) :
    (frameFits max n = true ∧ withinFrame max n out = out) ∨
    (∃ m, max = some m ∧ m < n ∧ withinFrame max n out = .refused .frameTooLong) := by
  cases max with
  | none => exact .inl ⟨rfl, rfl⟩
  | some m =>
    by_cases h : n ≤ m
    · exact .inl (by simp [withinFrame, frameFits, h])
    · exact .inr ⟨m, rfl, not_le.mp h, by simp [withinFrame, frameFits, h]⟩

/-- With the spec's default bound no frame is too long (U10). -/
@[simp] theorem withinFrame_default (n : Nat) (out : Host.Outcome State Fault Refusal) :
    withinFrame Config.maxFrameLen n out = out := rfl

/-- Creating a slot, sending, and destroying the slot again leaves only the sending (R159). -/
theorem State.drop_emit_put {s : State} {k : Key} (h : s.slots.get k = none) (sl : Slot)
    (b : ByteString) : ((s.putSlot k sl).emitTx b).dropSlot k = s.emitTx b := by
  show { (s.emitTx b) with slots := (s.slots.put k sl).drop k } = s.emitTx b
  rw [SlotTable.drop_put_of_absent h]
  rfl

/-- `cor_write` (R156): not ready; busy; the transport fails; accepted. -/
theorem corWrite_cases (code : Key) (bytes : ByteString) (owner : Owner) (attempt : Nat) (s : State) :
    (s.sess ≠ .ready ∧ corWrite code bytes owner attempt s = (s, some .notReady)) ∨
    (s.sess = .ready ∧ s.pending code = true ∧
      corWrite code bytes owner attempt s = (s, some .busy)) ∨
    (s.sess = .ready ∧ s.slots.get code = none ∧ s.ans = .error ∧
      corWrite code bytes owner attempt s = (s.emitTx bytes, some .transport)) ∨
    (s.sess = .ready ∧ s.slots.get code = none ∧ s.ans = .ok ∧
      corWrite code bytes owner attempt s =
        ((s.putSlot code ⟨code, attempt, s.now + tAttemptMs, owner⟩).emitTx bytes, none)) := by
  by_cases hr : s.sess = .ready
  · by_cases hp : s.pending code = true
    · exact .inr (.inl ⟨hr, hp, by simp [corWrite, hr, hp]⟩)
    · have hn := (s.not_pending_iff code).mp (by simpa using hp)
      cases ha : s.ans with
      | ok => exact .inr (.inr (.inr ⟨hr, hn, rfl, by simp [corWrite, hr, hp, ha]⟩))
      | error =>
        refine .inr (.inr (.inl ⟨hr, hn, rfl, ?_⟩))
        simp [corWrite, hr, hp, ha, State.drop_emit_put hn]
  · exact .inl ⟨hr, by simp [corWrite, hr]⟩

/-- `qry_attempt_failed` (R173): a backoff while attempts are left, else the query's completion. -/
theorem qryAttemptFailed_cases (P : Params) (cause : Err) (s : State) :
    (s.qattempt < maxAttempts ∧ qryAttemptFailed P cause s =
      ((s.setLastErr cause).setQState .backoff).setBackoffUntil (s.now + P.backoffMs)) ∨
    (maxAttempts ≤ s.qattempt ∧ qryAttemptFailed P cause s =
      ((s.setLastErr cause).setQState .idle).complete .query s.qcode
        (.cmdFail s.qattempt cause)) := by
  by_cases h : s.qattempt < maxAttempts
  · exact .inl ⟨h, by simp [qryAttemptFailed, h]⟩
  · exact .inr ⟨not_lt.mp h, by simp [qryAttemptFailed, h]⟩

/-- `qry_attempt` (R171): the write is accepted and the unit waits, or the attempt has failed. The
state a failed write leaves differs from the one before at most by the TXLOG entry. -/
theorem qryAttempt_cases (P : Params) (s : State) :
    (s.sess = .ready ∧ s.slots.get s.qcode = none ∧ s.ans = .ok ∧ qryAttempt P s =
      ((s.putSlot s.qcode ⟨s.qcode, s.qattempt, s.now + tAttemptMs, .query⟩).emitTx
        s.qframe).setQState .wait) ∨
    (s.sess = .ready ∧ s.slots.get s.qcode = none ∧ s.ans = .error ∧
      qryAttempt P s = qryAttemptFailed P .transport (s.emitTx s.qframe)) ∨
    (s.sess = .ready ∧ s.pending s.qcode = true ∧ qryAttempt P s = qryAttemptFailed P .busy s) ∨
    (s.sess ≠ .ready ∧ qryAttempt P s = qryAttemptFailed P .notReady s) := by
  rcases corWrite_cases s.qcode s.qframe .query s.qattempt s with
    ⟨h, e⟩ | ⟨h, h', e⟩ | ⟨h, h', h'', e⟩ | ⟨h, h', h'', e⟩
  · exact .inr (.inr (.inr ⟨h, by simp [qryAttempt, e]⟩))
  · exact .inr (.inr (.inl ⟨h, h', by simp [qryAttempt, e]⟩))
  · exact .inr (.inl ⟨h, h', h'', by simp [qryAttempt, e]⟩)
  · exact .inl ⟨h, h', h'', by simp [qryAttempt, e]⟩

/-- QRY.START (R170, R175): held, completed with E_NOTREADY, or the first attempt. -/
theorem qryStart_cases (P : Params) (i : Instr) (code : Key) (frame : ByteString) (s : State) :
    (s.qstate ≠ .idle ∧ qryStart P i code frame s = s.hold i) ∨
    (s.qstate = .idle ∧ s.sess ≠ .ready ∧
      qryStart P i code frame s = (s.complete .query code .notReady).respond .nothing) ∨
    (s.qstate = .idle ∧ s.sess = .ready ∧
      qryStart P i code frame s = (qryAttempt P (s.loadQuery code frame)).respond .nothing) := by
  by_cases hq : s.qstate = .idle
  · by_cases hr : s.sess = .ready
    · exact .inr (.inr ⟨hq, hr, by simp [qryStart, State.qbusy, hq, hr]⟩)
    · exact .inr (.inl ⟨hq, hr, by simp [qryStart, State.qbusy, hq, hr]⟩)
  · exact .inl ⟨hq, by simp [qryStart, State.qbusy, hq]⟩

/-- COR.RX of a verified frame (R163 to R166). -/
theorem corRxReply_cases (bytes : ByteString) (reply : Reply) (s : State) :
    ((body bytes).length < keyLen ∧
      corRxReply bytes reply s = s.logEvent (.unexpected none reply)) ∨
    (keyLen ≤ (body bytes).length ∧ s.slots.get (be16At (body bytes) 0) = none ∧
      corRxReply bytes reply s = s.logEvent (.unexpected (some (be16At (body bytes) 0)) reply)) ∨
    (∃ sl, keyLen ≤ (body bytes).length ∧ s.slots.get (be16At (body bytes) 0) = some sl ∧
      corRxReply bytes reply s =
        deliverReply sl (be16At (body bytes) 0) reply (s.dropSlot (be16At (body bytes) 0))) := by
  by_cases hl : (body bytes).length < keyLen
  · exact .inl ⟨hl, by simp [corRxReply, hl]⟩
  · cases hg : s.slots.get (be16At (body bytes) 0) with
    | none => exact .inr (.inl ⟨not_lt.mp hl, rfl, by simp [corRxReply, hl, hg]⟩)
    | some sl => exact .inr (.inr ⟨sl, not_lt.mp hl, rfl, by simp [corRxReply, hl, hg]⟩)

/-- COR.RX (R161): no effect, or the frame verified and was decoded. -/
theorem corRx_cases (P : Params) (bytes : ByteString) (s : State) :
    corRx P bytes s = s ∨
    (∃ reply, s.sess = .ready ∧ frmDec P.settings P.limits bytes = some reply ∧
      corRx P bytes s = corRxReply bytes reply s) := by
  by_cases hr : s.sess = .ready
  · cases hd : frmDec P.settings P.limits bytes with
    | none => exact .inl (by simp [corRx, State.rxEnabled, hr, hd])
    | some r => exact .inr ⟨r, hr, rfl, by simp [corRx, State.rxEnabled, hr, hd]⟩
  · exact .inl (by simp [corRx, State.rxEnabled, hr])

/-- COR.EXPIRE (R168, R169): no effect, or the slot's deadline has come. -/
theorem corExpire_cases (P : Params) (k : Key) (s : State) :
    corExpire P k s = s ∨
    (∃ sl, s.slots.get k = some sl ∧ sl.deadline ≤ s.now ∧
      corExpire P k s = deliverTimeout P sl k (s.dropSlot k)) := by
  cases hg : s.slots.get k with
  | none => exact .inl (by simp [corExpire, hg])
  | some sl =>
    by_cases hd : sl.deadline ≤ s.now
    · exact .inr ⟨sl, rfl, hd, by simp [corExpire, State.expireEnabled, hg, hd]⟩
    · exact .inl (by simp [corExpire, State.expireEnabled, hg, hd])

/-- QRY.RETRY (R174): no effect, or the next attempt. -/
theorem qryRetry_cases (P : Params) (s : State) :
    qryRetry P s = s ∨
    (s.qstate = .backoff ∧ s.qbackoffUntil ≤ s.now ∧
      qryRetry P s = qryAttempt P (s.setAttempt (s.qattempt + 1))) := by
  by_cases h : s.retryEnabled = true
  · refine .inr ?_
    have h' := h
    simp only [State.retryEnabled, Bool.and_eq_true, beq_iff_eq, decide_eq_true_eq] at h'
    exact ⟨h'.1, h'.2, by simp [qryRetry, h]⟩
  · exact .inl (by simp [qryRetry, h])

/-- One turn (R60): no turn is left; the agent presents nothing; or its request is run. -/
theorem takeTurn_cases (s : State) :
    (s.env.turns = [] ∧ takeTurn s = .next s) ∨
    (∃ t rest, s.env.turns = t :: rest ∧ (s.beginTurn t rest).env.port t.agent = [] ∧
      takeTurn s = .next (s.beginTurn t rest)) ∨
    (∃ t rest r rs, s.env.turns = t :: rest ∧ (s.beginTurn t rest).env.port t.agent = r :: rs ∧
      takeTurn s = runRequest t.agent r
        ((s.beginTurn t rest).setEnv ((s.beginTurn t rest).env.setPort t.agent rs))) := by
  cases ht : s.env.turns with
  | nil => exact .inl ⟨rfl, by simp [takeTurn, ht]⟩
  | cons t rest =>
    refine .inr ?_
    cases hp : (s.beginTurn t rest).env.port t.agent with
    | nil => exact .inl ⟨t, rest, rfl, hp, by simp only [takeTurn, ht, hp]⟩
    | cons r rs => exact .inr ⟨t, rest, r, rs, rfl, hp, by simp only [takeTurn, ht, hp]⟩

/-- Running a request (R86 (f), R230): E_BADOP, a refusal of the agent, or the operation. -/
theorem runRequest_cases (a : Agent) (r : Request) (s : State) :
    (decode r = .error .badOp ∧ runRequest a r s = .next (s.raise .badOp)) ∨
    (∃ i, decode r = .ok i ∧ i.agents.contains a = false ∧
      runRequest a r s = .refused .wrongAgent) ∨
    (∃ i, decode r = .ok i ∧ i.agents.contains a = true ∧ runRequest a r s = exec i s) := by
  cases hd : decode r with
  | error e => cases e; exact .inl ⟨rfl, by simp [runRequest, hd]⟩
  | ok i =>
    refine .inr ?_
    by_cases ha : i.agents.contains a = true
    · exact .inr ⟨i, rfl, ha, by simp only [runRequest, hd, ha, if_true]⟩
    · exact .inl ⟨i, rfl, by simpa using ha, by simp only [runRequest, hd, ha]; rfl⟩

end Sys2Proof.Machine
end

