-- ==== Sys2Proof/Laws/Exec.lean ====
section
/-! SUPPORT. What `exec` and `step` can answer, once, in terms of the shared operations. -/
namespace Sys2Proof.Machine

theorem next_inj {a b : State} (h : (Host.Outcome.next a : Host.Outcome State Fault Refusal) = .next b) :
    a = b := by
  cases h
  rfl

/-- Everything a next state of `exec` can be: only a result; a session step; a direct write that was
sent; a query start or builder; an inbound frame; a deadline; a retry. -/
theorem exec_next_cases {i : Instr} {s t : State} (h : exec i s = .next t) :
    (startsQuery i = false ∧ i ≠ .qryRetry ∧ ∃ r, t = s.respond r) ∨
    (∃ a, i = .sesConnect a ∧ s.sess = .down ∧
      ((s.ans = .ok ∧ t = ((s.emitConnect a).setSess .connected).respond .ok) ∨
       (s.ans = .error ∧ t = ((s.emitConnect a).setSess .failed).raise .conn))) ∨
    (i = .sesSubscribe ∧ s.sess = .connected ∧ t = (s.setSess .ready).respond .ok) ∨
    (∃ c b, i = .corWrite c b ∧ s.sess = .ready ∧ s.slots.get c = none ∧
      ((s.ans = .error ∧ t = (s.emitTx b).raise .transport (some c)) ∨
       (s.ans = .ok ∧ t =
        ((s.putSlot c ⟨c, 1, s.now + tAttemptMs, .host⟩).emitTx b).respond .accepted))) ∨
    (∃ c f, startsQuery i = true ∧ t = qryStart Config.params i c f s) ∨
    (∃ b, i = .corRx b ∧ t = (corRx Config.params b s).respond .nothing) ∨
    (∃ k, i = .corExpire k ∧ t = (corExpire Config.params k s).respond .nothing) ∨
    (i = .qryRetry ∧ t = (qryRetry Config.params s).respond .nothing) := by
  cases i with
  | crcGen src => exact .inl ⟨rfl, nofun, _, (next_inj h).symm⟩
  | crcVfy frame => exact .inl ⟨rfl, nofun, _, (next_inj h).symm⟩
  | fldU16 buf off =>
    simp only [exec, execFldU16] at h
    split at h
    · exact .inl ⟨rfl, nofun, _, (next_inj h).symm⟩
    · cases h
  | fldAcc32 buf off =>
    simp only [exec, execFldAcc32] at h
    split at h
    · exact .inl ⟨rfl, nofun, _, (next_inj h).symm⟩
    · cases h
  | frmEnc code payload => exact .inl ⟨rfl, nofun, _, (next_inj h).symm⟩
  | frmDec frame =>
    cases next_inj h
    cases frmDec Config.params.settings Config.params.limits frame <;> exact .inl ⟨rfl, nofun, _, rfl⟩
  | frmDecSet frame =>
    cases next_inj h
    cases frmDecSet Config.params.settings frame <;> exact .inl ⟨rfl, nofun, _, rfl⟩
  | frmDecLim frame =>
    cases next_inj h
    cases frmDecLim Config.params.limits frame <;> exact .inl ⟨rfl, nofun, _, rfl⟩
  | frmDecRaw frame =>
    cases next_inj h
    cases frmDecRaw frame <;> exact .inl ⟨rfl, nofun, _, rfl⟩
  | sesConnect address =>
    simp only [exec, execSesConnect] at h
    split at h
    · rename_i hd
      split at h
      · rename_i ha
        exact .inr (.inl ⟨_, rfl, hd, .inl ⟨ha, (next_inj h).symm⟩⟩)
      · rename_i ha
        exact .inr (.inl ⟨_, rfl, hd, .inr ⟨ha, (next_inj h).symm⟩⟩)
    · exact .inl ⟨rfl, nofun, _, (next_inj h).symm⟩
  | sesSubscribe =>
    simp only [exec, execSesSubscribe] at h
    split at h
    · rename_i hc
      exact .inr (.inr (.inl ⟨rfl, hc, (next_inj h).symm⟩))
    all_goals exact .inl ⟨rfl, nofun, _, (next_inj h).symm⟩
  | corWrite code bytes =>
    rcases corWrite_cases code bytes .host 1 s with
      ⟨_, e⟩ | ⟨_, _, e⟩ | ⟨hr, hn, ha, e⟩ | ⟨hr, hn, ha, e⟩ <;>
      simp only [exec, execCorWrite, e] at h
    · exact .inl ⟨rfl, nofun, _, (next_inj h).symm⟩
    · exact .inl ⟨rfl, nofun, _, (next_inj h).symm⟩
    · exact .inr (.inr (.inr (.inl ⟨_, _, rfl, hr, hn, .inl ⟨ha, (next_inj h).symm⟩⟩)))
    · exact .inr (.inr (.inr (.inl ⟨_, _, rfl, hr, hn, .inr ⟨ha, (next_inj h).symm⟩⟩)))
  | corRx bytes => exact .inr (.inr (.inr (.inr (.inr (.inl ⟨_, rfl, (next_inj h).symm⟩)))))
  | corExpire key =>
    exact .inr (.inr (.inr (.inr (.inr (.inr (.inl ⟨_, rfl, (next_inj h).symm⟩))))))
  | qryRetry => exact .inr (.inr (.inr (.inr (.inr (.inr (.inr ⟨rfl, (next_inj h).symm⟩))))))
  | qryStart _ _ | cmdStatus | cmdLimits | cmdSetv _ | cmdSeti _ | cmdSetbl _ | cmdSetbz _ | cmdSetto _
  | cmdOn | cmdOff | cmdRestart =>
    exact .inr (.inr (.inr (.inr (.inl ⟨_, _, rfl, (next_inj h).symm⟩))))

/-- Everything a next state of `step` can be: the engine waits; time passes; an unlisted select code;
or an operation run on the state in which its turn has begun and its request has left the port. -/
theorem step_next_cases {s t : State} (h : step s = .next t) :
    (s.env.turns = [] ∧ t = s) ∨
    (∃ u rest, s.env.turns = u :: rest ∧ t = s.beginTurn u rest) ∨
    (∃ u rest e, s.env.turns = u :: rest ∧ t = ((s.beginTurn u rest).setEnv e).raise .badOp) ∨
    (∃ u rest e i, s.env.turns = u :: rest ∧ i.agents.contains u.agent = true ∧
      exec i ((s.beginTurn u rest).setEnv e) = .next t) := by
  rcases takeTurn_cases s with ⟨ht, e⟩ | ⟨u, rest, ht, _, e⟩ | ⟨u, rest, r, rs, ht, _, e⟩
  · exact .inl ⟨ht, next_inj (h.symm.trans e)⟩
  · exact .inr (.inl ⟨u, rest, ht, next_inj (h.symm.trans e)⟩)
  · rw [step, e] at h
    rcases runRequest_cases u.agent r
        ((s.beginTurn u rest).setEnv ((s.beginTurn u rest).env.setPort u.agent rs)) with
      ⟨_, e'⟩ | ⟨i, _, _, e'⟩ | ⟨i, _, ha, e'⟩ <;> rw [e'] at h
    · exact .inr (.inr (.inl ⟨u, rest, _, ht, (next_inj h).symm⟩))
    · cases h
    · exact .inr (.inr (.inr ⟨u, rest, _, i, ht, ha, h⟩))

end Sys2Proof.Machine
end

