-- ==== Sys2Proof/Laws/PerInstr.lean ====
section
/-! SUPPORT. One statement for every operation: the select table of 30_encoding R88 has a row that
builds the operation back from the request that presents it and, where the operation is well formed,
takes that request. -/
namespace Sys2Proof.Laws

/-- The table has a row for the operation, with every operand. -/
def EncodedSelect.Statement (i : Instr) : Prop :=
  ∃ row ∈ opcodeTable, row.make (encode i) = i ∧
    (i.wellFormed = true → row.selects (encode i) = true)

/-- A row given by its place in the table. -/
theorem encodedSelect_of_row {i : Instr} (n : Nat) (row : OpRow) (h : opcodeTable[n]? = some row)
    (hm : row.make (encode i) = i) (hs : i.wellFormed = true → row.selects (encode i) = true) :
    EncodedSelect.Statement i :=
  ⟨row, List.mem_of_getElem? h, hm, hs⟩

theorem EncodedSelect.crcGen (src : ByteString) :
    EncodedSelect.Statement (.crcGen src) :=
  encodedSelect_of_row 0 _ rfl rfl fun _ => by
    simp [OpRow.selects, encode, Request.ofOpsel, Request.selectWord]

theorem EncodedSelect.crcVfy (frame : ByteString) :
    EncodedSelect.Statement (.crcVfy frame) :=
  encodedSelect_of_row 1 _ rfl rfl fun _ => by
    simp [OpRow.selects, encode, Request.ofOpsel, Request.selectWord]

theorem EncodedSelect.fldU16 (buf : ByteString) (off : Nat) :
    EncodedSelect.Statement (.fldU16 buf off) :=
  encodedSelect_of_row 2 _ rfl rfl fun _ => by
    simp [OpRow.selects, encode, Request.ofOpsel, Request.selectWord]

theorem EncodedSelect.fldAcc32 (buf : ByteString) (off : Nat) :
    EncodedSelect.Statement (.fldAcc32 buf off) :=
  encodedSelect_of_row 3 _ rfl rfl fun _ => by
    simp [OpRow.selects, encode, Request.ofOpsel, Request.selectWord]

theorem EncodedSelect.frmEnc (code : Key) (payload : ByteString) :
    EncodedSelect.Statement (.frmEnc code payload) :=
  encodedSelect_of_row 4 _ rfl rfl fun _ => by
    simp [OpRow.selects, encode, Request.ofOpsel, Request.selectWord]

theorem EncodedSelect.frmDec (frame : ByteString) :
    EncodedSelect.Statement (.frmDec frame) :=
  encodedSelect_of_row 5 _ rfl rfl fun _ => by
    simp [OpRow.selects, encode, Request.ofOpsel, Request.selectWord]

theorem EncodedSelect.frmDecSet (frame : ByteString) :
    EncodedSelect.Statement (.frmDecSet frame) :=
  encodedSelect_of_row 6 _ rfl rfl fun h => by
    simp only [Instr.wellFormed, beq_iff_eq] at h
    simp [OpRow.selects, encode, Request.ofOpsel, Request.selectWord, h, discSettings]

theorem EncodedSelect.frmDecLim (frame : ByteString) :
    EncodedSelect.Statement (.frmDecLim frame) :=
  encodedSelect_of_row 7 _ rfl rfl fun h => by
    simp only [Instr.wellFormed, beq_iff_eq] at h
    simp [OpRow.selects, encode, Request.ofOpsel, Request.selectWord, h, discLimits]

theorem EncodedSelect.frmDecRaw (frame : ByteString) :
    EncodedSelect.Statement (.frmDecRaw frame) :=
  encodedSelect_of_row 8 _ rfl rfl fun _ => by
    have key : ∀ d : Byte, (17 * 256 + d.toNat) &&& 0xFF00 = 0x1100 := by decide
    simp [OpRow.selects, encode, Request.ofOpsel, Request.selectWord, key]

theorem EncodedSelect.sesConnect (address : Address) :
    EncodedSelect.Statement (.sesConnect address) :=
  encodedSelect_of_row 9 _ rfl rfl fun _ => by
    simp [OpRow.selects, encode, Request.ofOpsel, Request.selectWord]

theorem EncodedSelect.sesSubscribe : EncodedSelect.Statement .sesSubscribe :=
  encodedSelect_of_row 10 _ rfl rfl fun _ => by
    simp [OpRow.selects, encode, Request.ofOpsel, Request.selectWord]

theorem EncodedSelect.corWrite (code : Key) (bytes : ByteString) :
    EncodedSelect.Statement (.corWrite code bytes) :=
  encodedSelect_of_row 11 _ rfl rfl fun _ => by
    simp [OpRow.selects, encode, Request.ofOpsel, Request.selectWord]

theorem EncodedSelect.qryStart (code : Key) (frame : ByteString) :
    EncodedSelect.Statement (.qryStart code frame) :=
  encodedSelect_of_row 12 _ rfl rfl fun _ => by
    simp [OpRow.selects, encode, Request.ofOpsel, Request.selectWord]

theorem EncodedSelect.corRx (bytes : ByteString) :
    EncodedSelect.Statement (.corRx bytes) :=
  encodedSelect_of_row 13 _ rfl rfl fun _ => by
    simp [OpRow.selects, encode, Request.ofOpsel, Request.selectWord]

theorem EncodedSelect.corExpire (key : Key) :
    EncodedSelect.Statement (.corExpire key) :=
  encodedSelect_of_row 14 _ rfl rfl fun _ => by
    simp [OpRow.selects, encode, Request.ofOpsel, Request.selectWord]

theorem EncodedSelect.qryRetry : EncodedSelect.Statement .qryRetry :=
  encodedSelect_of_row 15 _ rfl rfl fun _ => by
    simp [OpRow.selects, encode, Request.ofOpsel, Request.selectWord]

theorem EncodedSelect.cmdStatus : EncodedSelect.Statement .cmdStatus :=
  encodedSelect_of_row 16 _ rfl rfl fun _ => by
    simp [OpRow.selects, encode, Request.ofOpsel, Request.selectWord]

theorem EncodedSelect.cmdLimits : EncodedSelect.Statement .cmdLimits :=
  encodedSelect_of_row 17 _ rfl rfl fun _ => by
    simp [OpRow.selects, encode, Request.ofOpsel, Request.selectWord]

theorem EncodedSelect.cmdSetv (v : Int) :
    EncodedSelect.Statement (.cmdSetv v) :=
  encodedSelect_of_row 18 _ rfl rfl fun _ => by
    simp [OpRow.selects, encode, Request.ofOpsel, Request.selectWord]

theorem EncodedSelect.cmdSeti (v : Int) :
    EncodedSelect.Statement (.cmdSeti v) :=
  encodedSelect_of_row 19 _ rfl rfl fun _ => by
    simp [OpRow.selects, encode, Request.ofOpsel, Request.selectWord]

theorem EncodedSelect.cmdSetbl (v : Int) :
    EncodedSelect.Statement (.cmdSetbl v) :=
  encodedSelect_of_row 20 _ rfl rfl fun _ => by
    simp [OpRow.selects, encode, Request.ofOpsel, Request.selectWord]

theorem EncodedSelect.cmdSetbz (v : Int) :
    EncodedSelect.Statement (.cmdSetbz v) :=
  encodedSelect_of_row 21 _ rfl rfl fun _ => by
    simp [OpRow.selects, encode, Request.ofOpsel, Request.selectWord]

theorem EncodedSelect.cmdSetto (v : Int) :
    EncodedSelect.Statement (.cmdSetto v) :=
  encodedSelect_of_row 22 _ rfl rfl fun _ => by
    simp [OpRow.selects, encode, Request.ofOpsel, Request.selectWord]

theorem EncodedSelect.cmdOn : EncodedSelect.Statement .cmdOn :=
  encodedSelect_of_row 23 _ rfl rfl fun _ => by
    simp [OpRow.selects, encode, Request.ofOpsel, Request.selectWord]

theorem EncodedSelect.cmdOff : EncodedSelect.Statement .cmdOff :=
  encodedSelect_of_row 24 _ rfl rfl fun _ => by
    simp [OpRow.selects, encode, Request.ofOpsel, Request.selectWord]

theorem EncodedSelect.cmdRestart : EncodedSelect.Statement .cmdRestart :=
  encodedSelect_of_row 25 _ rfl rfl fun _ => by
    simp [OpRow.selects, encode, Request.ofOpsel, Request.selectWord]

end Sys2Proof.Laws
end

