-- ==== Sys2Proof/Machine/Reference.lean ====
section
/-! DEFINITION. The spec's own reference instance of the open parameters: `REF_SETTINGS` and `REF_LIMITS`
(30_encoding R84, R85) with `REF_TEMPLATE` (43_command_builders R204). NOT the device's commands or layout:
it exists for the spec's examples and vectors, and no meaning uses it. -/
namespace Sys2Proof.Machine

/-- A number of 16 bits is known from its big-endian bytes. -/
theorem be16_ofNat_inj {a b : Nat} (ha : a < 65536) (hb : b < 65536)
    (h : be16 (BitVec.ofNat 16 a) = be16 (BitVec.ofNat 16 b)) : a = b := by
  simp only [be16, List.cons.injEq, and_true, ← BitVec.toNat_inj, BitVec.extractLsb'_toNat,
    BitVec.toNat_ofNat, Nat.shiftRight_eq_div_pow] at h
  omega

/-- A number of 32 bits is known from its big-endian bytes. -/
theorem be32_ofNat_inj {a b : Nat} (ha : a < 4294967296) (hb : b < 4294967296)
    (h : be32 (BitVec.ofNat 32 a) = be32 (BitVec.ofNat 32 b)) : a = b := by
  simp only [be32, List.cons.injEq, and_true, ← BitVec.toNat_inj, BitVec.extractLsb'_toNat,
    BitVec.toNat_ofNat, Nat.shiftRight_eq_div_pow] at h
  omega

/-- The code that the two reads share (R204). -/
def refReadCode : Key := 0x0103#16

/-- The code that the eight writes share (R204). -/
def refWriteCode : Key := 0x0106#16

/-- A setter of R204 with a 16-bit value field: the payload is `[00 sel] ++ be16(c)`. -/
def refSetter16 (hi scale : Nat) (sel : Byte) (pos : 0 < scale) (fits : hi * scale < 65536) :
    SetterTemplate hi where
  scale := scale
  scale_pos := pos
  code := refWriteCode
  payload c := [0x00#8, sel] ++ be16 (BitVec.ofNat 16 c)
  payload_inj _ _ ha hb h :=
    be16_ofNat_inj (ha.trans_lt fits) (hb.trans_lt fits) (List.append_cancel_left h)

/-- A setter of R204 with a 32-bit value field: the payload is `[00 sel] ++ be32(c)`. -/
def refSetter32 (hi scale : Nat) (sel : Byte) (pos : 0 < scale) (fits : hi * scale < 4294967296) :
    SetterTemplate hi where
  scale := scale
  scale_pos := pos
  code := refWriteCode
  payload c := [0x00#8, sel] ++ be32 (BitVec.ofNat 32 c)
  payload_inj _ _ ha hb h :=
    be32_ofNat_inj (ha.trans_lt fits) (hb.trans_lt fits) (List.append_cancel_left h)

/-- The reference instance: `REF_TEMPLATE` row by row (R204), the reference schemas (R84, R85), and the
nominal T_BACKOFF_MS (00_scope R8). -/
def refParams : Params where
  backoffMs := 100
  settings := refSettings
  limits := refLimits
  status := ⟨refReadCode, [0x00#8, 0x00#8, 0x00#8, 0x1E#8]⟩
  readLimits := ⟨refReadCode, [0x00#8, 0x50#8, 0x00#8, 0x0E#8]⟩
  setv := refSetter16 vMax 100 0x00#8 (by decide) (by decide)
  seti := refSetter16 iMax 100 0x01#8 (by decide) (by decide)
  setbl := refSetter16 blMax 1 0x14#8 (by decide) (by decide)
  setbz := refSetter16 bzMax 1 0x1C#8 (by decide) (by decide)
  setto := refSetter32 toMax 1 0x15#8 (by decide) (by decide)
  on := ⟨refWriteCode, [0x00#8, 0x12#8, 0x00#8, 0x01#8]⟩
  off := ⟨refWriteCode, [0x00#8, 0x12#8, 0x00#8, 0x00#8]⟩
  restart := ⟨refWriteCode, [0x00#8, 0xFF#8, 0x00#8, 0x01#8]⟩

end Sys2Proof.Machine
end

