-- ==== Sys2Proof/Tests/Slice0.lean ====
section
/-! SUPPORT. Tests. Expected results come from spec/: the vectors V<n> of 95_test_vectors (computed there
from the rules), or the rule a comment names. A theorem `witness_<Name>` shows values that meet the
hypotheses of `Obligations.<Name>`, for each of its clauses. -/
namespace Sys2Proof.Tests
open Sys2Proof.Machine
set_option maxRecDepth 100000

/-- The next state of an outcome. -/
def next? : Host.Outcome State Fault Refusal → Option State
  | .next t => some t
  | .fault _ => none
  | .refused _ => none

/-- The refusal of an outcome. -/
def refusal? : Host.Outcome State Fault Refusal → Option Refusal
  | .next _ => none
  | .fault _ => none
  | .refused r => some r

/-! ## WellFormed refuses -/

/-- R121: the footprint of two bytes does not fit. -/
theorem test_wellFormed_refuses_fldU16 : (Instr.fldU16 [0x0B#8, 0xB8#8] 1).wellFormed = false := by decide

/-- R122: the footprint of six bytes does not fit. -/
theorem test_wellFormed_refuses_fldAcc32 :
    (Instr.fldAcc32 [0xE2#8, 0x40#8, 0xAA#8, 0xBB#8, 0x00#8] 0).wellFormed = false := by decide

/-- R88: frame[2] does not select the SETTINGS arm; it is absent. -/
theorem test_wellFormed_refuses_frmDecSet :
    (Instr.frmDecSet [0x01#8, 0x03#8, 0x1C#8]).wellFormed = false ∧
    (Instr.frmDecSet [0x01#8, 0x03#8]).wellFormed = false := by decide

/-- R88: frame[2] does not select the LIMITS arm. -/
theorem test_wellFormed_refuses_frmDecLim :
    (Instr.frmDecLim [0x01#8, 0x03#8, 0x3C#8]).wellFormed = false := by decide

/-- R88: frame[2] selects another arm. -/
theorem test_wellFormed_refuses_frmDecRaw :
    (Instr.frmDecRaw [0x01#8, 0x03#8, 0x3C#8]).wellFormed = false ∧
    (Instr.frmDecRaw [0x01#8, 0x03#8, 0x1C#8]).wellFormed = false := by decide

/-! ## Decoding: the select codes of R88, written out -/

theorem test_decode_crcGen :
    decode ⟨.op, 0x01#8, [0x31#8], 0#16, 0, 0⟩ =
      .ok (.crcGen [0x31#8]) := by decide

theorem test_decode_crcVfy :
    decode ⟨.op, 0x02#8, [0xFF#8, 0xFE#8], 0#16, 0, 0⟩ =
      .ok (.crcVfy [0xFF#8, 0xFE#8]) := by decide

theorem test_decode_fldU16 :
    decode ⟨.op, 0x08#8, [0x01#8, 0x0B#8, 0xB8#8], 0#16, 1, 0⟩ =
      .ok (.fldU16 [0x01#8, 0x0B#8, 0xB8#8] 1) := by decide

theorem test_decode_fldAcc32 :
    decode ⟨.op, 0x09#8, [0x01#8], 0#16, 2, 0⟩ =
      .ok (.fldAcc32 [0x01#8] 2) := by decide

theorem test_decode_frmEnc :
    decode ⟨.op, 0x10#8, [0x1E#8], 0x0103#16, 0, 0⟩ =
      .ok (.frmEnc 0x0103#16 [0x1E#8]) := by decide

theorem test_decode_frmDec :
    decode ⟨.op, 0x11#8, [0x01#8, 0x03#8, 0x3C#8], 0#16, 0, 0⟩ =
      .ok (.frmDec [0x01#8, 0x03#8, 0x3C#8]) := by decide

theorem test_decode_frmDecSet :
    decode ⟨.opRpy, 0x11#8, [0x01#8, 0x03#8, 0x3C#8], 0#16, 0, 0⟩ =
      .ok (.frmDecSet [0x01#8, 0x03#8, 0x3C#8]) := by decide

theorem test_decode_frmDecLim :
    decode ⟨.opRpy, 0x11#8, [0x01#8, 0x03#8, 0x1C#8], 0#16, 0, 0⟩ =
      .ok (.frmDecLim [0x01#8, 0x03#8, 0x1C#8]) := by decide

theorem test_decode_frmDecRaw :
    decode ⟨.opRpy, 0x11#8, [0x01#8, 0x03#8, 0x3D#8], 0#16, 0, 0⟩ =
      .ok (.frmDecRaw [0x01#8, 0x03#8, 0x3D#8]) := by decide

theorem test_decode_frmDecRaw_absent :
    decode ⟨.opRpy, 0x11#8, [0x01#8, 0x03#8], 0#16, 0, 0⟩ =
      .ok (.frmDecRaw [0x01#8, 0x03#8]) := by decide

theorem test_decode_sesConnect :
    decode ⟨.op, 0x20#8, [0x5A#8], 0#16, 0, 0⟩ =
      .ok (.sesConnect [0x5A#8]) := by decide

theorem test_decode_sesSubscribe :
    decode ⟨.op, 0x21#8, [], 0#16, 0, 0⟩ =
      .ok .sesSubscribe := by decide

theorem test_decode_corWrite :
    decode ⟨.op, 0x30#8, [0x01#8, 0x06#8], 0x0106#16, 0, 0⟩ =
      .ok (.corWrite 0x0106#16 [0x01#8, 0x06#8]) := by decide

theorem test_decode_qryStart :
    decode ⟨.op, 0x38#8, [0x01#8, 0x03#8], 0x0103#16, 0, 0⟩ =
      .ok (.qryStart 0x0103#16 [0x01#8, 0x03#8]) := by decide

theorem test_decode_corRx :
    decode ⟨.op, 0x40#8, [0x01#8, 0x7E#8, 0x80#8], 0#16, 0, 0⟩ =
      .ok (.corRx [0x01#8, 0x7E#8, 0x80#8]) := by decide

theorem test_decode_corExpire :
    decode ⟨.op, 0x41#8, [], 0x0103#16, 0, 0⟩ =
      .ok (.corExpire 0x0103#16) := by decide

theorem test_decode_qryRetry : decode ⟨.op, 0x42#8, [], 0#16, 0, 0⟩ = .ok .qryRetry := by decide

theorem test_decode_cmdStatus : decode ⟨.op, 0x50#8, [], 0#16, 0, 0⟩ = .ok .cmdStatus := by decide

theorem test_decode_cmdLimits : decode ⟨.op, 0x51#8, [], 0#16, 0, 0⟩ = .ok .cmdLimits := by decide

theorem test_decode_cmdSetv :
    decode ⟨.op, 0x52#8, [], 0#16, 0, (-500)⟩ =
      .ok (.cmdSetv (-500)) := by decide

theorem test_decode_cmdSeti :
    decode ⟨.op, 0x53#8, [], 0#16, 0, 150⟩ =
      .ok (.cmdSeti 150) := by decide

theorem test_decode_cmdSetbl : decode ⟨.op, 0x54#8, [], 0#16, 0, 6⟩ = .ok (.cmdSetbl 6) := by decide

theorem test_decode_cmdSetbz :
    decode ⟨.op, 0x55#8, [], 0#16, 0, (-7)⟩ =
      .ok (.cmdSetbz (-7)) := by decide

theorem test_decode_cmdSetto :
    decode ⟨.op, 0x56#8, [], 0#16, 0, 100001⟩ =
      .ok (.cmdSetto 100001) := by decide

theorem test_decode_cmdOn : decode ⟨.op, 0x57#8, [], 0#16, 0, 0⟩ = .ok .cmdOn := by decide

theorem test_decode_cmdOff : decode ⟨.op, 0x58#8, [], 0#16, 0, 0⟩ = .ok .cmdOff := by decide

theorem test_decode_cmdRestart :
    decode ⟨.op, 0x59#8, [], 0#16, 0, 0⟩ =
      .ok .cmdRestart := by decide

/-- R86 (f): a select code that R88 does not list. -/
theorem test_decode_refuses_unlisted : decode ⟨.op, 0x5A#8, [], 0#16, 0, 0⟩ = .error .badOp := by decide

/-- R87: no two rows of format OP take the same select code. -/
theorem test_opRows_disjoint :
    ((opcodeTable.filter (fun r => r.format == .op)).map OpRow.matchBits).Nodup := by decide

/-- The table's bits of three rows, as spec/opcode_table.json numbers them. -/
theorem test_tableWords :
    decodeTableWord 8 0x42 = some .qryRetry ∧
    decodeTableWord 16 0x113C = some (.frmDecSet [0#8, 0#8, 0x3C#8, 0#8, 0#8, 0#8, 0#8, 0#8]) ∧
    decodeTableWord 16 0x1100 = some (.frmDecRaw [0#8, 0#8, 0#8, 0#8, 0#8, 0#8, 0#8, 0#8]) := by decide

/-! ## CRC Engine -/

/-- V1 to V11. -/
theorem test_crcGen_vectors :
    crcGen [] = [0xFF#8, 0xFF#8] ∧ crcGen [0x00#8] = [0xBF#8, 0x40#8] ∧
    crcGen [0x01#8] = [0x7E#8, 0x80#8] ∧ crcGen [0x80#8] = [0xBE#8, 0xE0#8] ∧
    crcGen [0xFF#8] = [0xFF#8, 0x00#8] ∧ crcGen [0x00#8, 0x00#8] = [0x01#8, 0xB0#8] ∧
    crcGen [0xFF#8, 0xFF#8] = [0x00#8, 0x00#8] ∧ crcGen [0x01#8, 0x03#8] = [0x40#8, 0x21#8] ∧
    crcGen (List.replicate 16 0x00#8) = [0xBE#8, 0xF0#8] := by decide

/-- V8. -/
theorem test_crcGen_check_string :
    next? (exec (.crcGen [0x31#8, 0x32#8, 0x33#8, 0x34#8, 0x35#8, 0x36#8, 0x37#8, 0x38#8, 0x39#8])
      State.reset) =
      some { State.reset with ret := .bytes [0x37#8, 0x4B#8] } := by decide

/-- V12 to V15. -/
theorem test_crcVfy_vectors :
    crcVfy [0x01#8, 0x03#8, 0x00#8, 0x00#8, 0x00#8, 0x1E#8, 0xC5#8, 0xC2#8] = true ∧
    crcVfy [0x01#8, 0x03#8, 0x00#8, 0x00#8, 0x00#8, 0x1F#8, 0xC5#8, 0xC2#8] = false ∧
    crcVfy [0x01#8, 0x03#8, 0x00#8, 0x00#8, 0x00#8, 0x1E#8, 0xC5#8, 0xC3#8] = false ∧
    crcVfy [0x01#8, 0x03#8, 0x00#8, 0x00#8, 0x00#8, 0x1E#8, 0xC2#8, 0xC5#8] = false := by decide

/-- V16 to V18. -/
theorem test_crcVfy_short :
    crcVfy [0xFF#8, 0xFF#8] = true ∧ crcVfy [] = false ∧
    next? (exec (.crcVfy [0x37#8]) State.reset) =
      some { State.reset with ret := .bool false } := by decide

/-- V19, and the intermediate register of V9's trace. -/
theorem test_crcReg_residue :
    crcReg [0x01#8, 0x03#8, 0x00#8, 0x00#8, 0x00#8, 0x1E#8, 0xC5#8, 0xC2#8] = 0x0000#16 ∧
    crcReg [0x01#8] = 0x7E01#16 ∧ crcReg [0x01#8, 0x03#8] = 0x0284#16 := by decide

/-- V8 and V10 by the least-significant-bit-first form (R109). -/
theorem test_crcGenLsb_vectors :
    crcGenLsb [0x31#8, 0x32#8, 0x33#8, 0x34#8, 0x35#8, 0x36#8, 0x37#8, 0x38#8, 0x39#8] =
      [0x37#8, 0x4B#8] ∧
    crcGenLsb [0x01#8, 0x03#8, 0x00#8, 0x00#8, 0x00#8, 0x1E#8] = [0xC5#8, 0xC2#8] := by decide

/-! ## Frame Codec -/

/-- V20, V23: big-endian, unsigned. -/
theorem test_fldU16_vectors :
    next? (exec (.fldU16 [0xEE#8, 0x0B#8, 0xB8#8] 1) State.reset) =
      some { State.reset with ret := .raw16 3000#16 } ∧
    (be16At [0xFF#8, 0xF6#8] 0).toNat = 65526 := by decide

/-- R121: outside the buffer the operation is not defined and a model refuses it. -/
theorem test_fldU16_refused :
    refusal? (exec (.fldU16 [0x0B#8] 0) State.reset) = some .fieldOutOfRange := by decide

/-- V24 to V27. -/
theorem test_fldAcc32_vectors :
    next? (exec (.fldAcc32 [0xE2#8, 0x40#8, 0xAA#8, 0xBB#8, 0x00#8, 0x01#8] 0) State.reset) =
      some { State.reset with ret := .raw32 123456#32 } ∧
    (acc32At [0x03#8, 0x04#8, 0x00#8, 0x00#8, 0x01#8, 0x02#8] 0).toNat = 16909060 ∧
    (acc32At [0xFF#8, 0xFF#8, 0xFF#8, 0xFF#8, 0xFF#8, 0xFF#8] 0).toNat = 4294967295 ∧
    (acc32At [0x00#8, 0x00#8, 0xFF#8, 0xFF#8, 0x00#8, 0x00#8] 0).toNat = 0 := by decide

/-- R122: outside the buffer the operation is not defined and a model refuses it. -/
theorem test_fldAcc32_refused :
    refusal? (exec (.fldAcc32 [0xE2#8, 0x40#8, 0xAA#8, 0xBB#8, 0x00#8] 0) State.reset) =
      some .fieldOutOfRange := by decide

/-- V25, V26, V23, V22 displayed (R123). -/
theorem test_render_vectors :
    (FieldValue.mk (.acc32 16909060#32) 1000).render = "16909.060" ∧
    (FieldValue.mk (.acc32 4294967295#32) 100).render = "42949672.95" ∧
    (FieldValue.mk (.u16 65526#16) 10).render = "6552.6" ∧
    (FieldValue.mk (.u16 65535#16) 1).render = "65535" := by decide

/-- V31 to V33. -/
theorem test_frmEnc_vectors :
    next? (exec (.frmEnc 0x0103#16 []) State.reset) =
      some { State.reset with ret := .bytes [0x01#8, 0x03#8, 0x40#8, 0x21#8] } ∧
    frmEnc 0x0106#16 [0x00#8, 0x00#8, 0x04#8, 0xB0#8] =
      [0x01#8, 0x06#8, 0x00#8, 0x00#8, 0x04#8, 0xB0#8, 0x8A#8, 0xBE#8] ∧
    frmEnc 0x0106#16 [0x00#8, 0x15#8, 0x00#8, 0x01#8, 0x86#8, 0xA0#8] =
      [0x01#8, 0x06#8, 0x00#8, 0x15#8, 0x00#8, 0x01#8, 0x86#8, 0xA0#8, 0xD9#8, 0xDC#8] := by decide

/-- The body of V40. -/
def bodyV40 : ByteString :=
  [0x01#8, 0x03#8, 0x3C#8, 0x0B#8, 0xB8#8, 0x00#8, 0x96#8, 0x0B#8, 0xB6#8, 0x00#8, 0x95#8, 0x01#8,
   0xBF#8, 0x0E#8, 0x10#8, 0xE2#8, 0x40#8, 0xEE#8, 0xEE#8, 0x00#8, 0x01#8, 0x03#8, 0x04#8, 0xEE#8,
   0xEE#8, 0x01#8, 0x02#8, 0x00#8, 0x01#8, 0x00#8, 0x1E#8, 0x00#8, 0xFD#8, 0xFF#8, 0xF6#8, 0x00#8,
   0x00#8, 0x00#8, 0x00#8, 0x00#8, 0x01#8, 0x00#8, 0x05#8, 0x02#8, 0x58#8, 0x27#8, 0x26#8]

/-- The body of V42. -/
def bodyV42 : ByteString :=
  [0x01#8, 0x03#8, 0x1C#8, 0x2E#8, 0xE0#8, 0x07#8, 0xD0#8, 0x03#8, 0xE8#8, 0x30#8, 0xD4#8, 0x08#8,
   0x98#8, 0x3A#8, 0x98#8, 0x00#8, 0x63#8, 0x00#8, 0x3B#8, 0x92#8, 0x98#8, 0xEE#8, 0xEE#8, 0x00#8,
   0x98#8, 0xFF#8, 0xFF#8, 0xEE#8, 0xEE#8, 0xFF#8, 0xFF#8, 0x03#8, 0x20#8, 0x00#8, 0x00#8]

/-- The report of V40. -/
def reportV40 : Report :=
  [("set_voltage", ⟨.u16 3000#16, 100⟩), ("set_current", ⟨.u16 150#16, 100⟩),
   ("out_voltage", ⟨.u16 2998#16, 100⟩), ("out_current", ⟨.u16 149#16, 100⟩),
   ("out_power", ⟨.u16 447#16, 10⟩), ("in_voltage", ⟨.u16 3600#16, 100⟩),
   ("ah_out", ⟨.acc32 123456#32, 1000⟩), ("wh_out", ⟨.acc32 16909060#32, 1000⟩),
   ("timer_hours", ⟨.u16 1#16, 1⟩), ("timer_minutes", ⟨.u16 30#16, 1⟩),
   ("temp_internal", ⟨.u16 253#16, 10⟩), ("temp_external", ⟨.u16 65526#16, 10⟩),
   ("lock", ⟨.u16 0#16, 1⟩), ("protection", ⟨.u16 0#16, 1⟩),
   ("output_state", ⟨.u16 1#16, 1⟩), ("backlight", ⟨.u16 5#16, 1⟩),
   ("timeout", ⟨.u16 600#16, 1⟩), ("product_id", ⟨.u16 10022#16, 1⟩)]

/-- The report of V42. -/
def reportV42 : Report :=
  [("lim_set_voltage", ⟨.u16 12000#16, 100⟩), ("lim_set_current", ⟨.u16 2000#16, 100⟩),
   ("lim_low_voltage", ⟨.u16 1000#16, 100⟩), ("lim_over_voltage", ⟨.u16 12500#16, 100⟩),
   ("lim_over_current", ⟨.u16 2200#16, 100⟩), ("lim_over_power", ⟨.u16 15000#16, 10⟩),
   ("lim_timer_hours", ⟨.u16 99#16, 1⟩), ("lim_timer_minutes", ⟨.u16 59#16, 1⟩),
   ("lim_ah", ⟨.acc32 9999000#32, 1000⟩), ("lim_wh", ⟨.acc32 4294967295#32, 100⟩),
   ("lim_over_temp", ⟨.u16 800#16, 10⟩), ("lim_power_on_state", ⟨.u16 0#16, 1⟩)]

/-- V40, and V43 (one bit of it changed). -/
theorem test_frmDec_V40_V43 :
    frmDec refSettings refLimits (bodyV40 ++ [0x2A#8, 0x39#8]) = some (.settings reportV40) ∧
    frmDec refSettings refLimits (bodyV40.set 3 0x0A#8 ++ [0x2A#8, 0x39#8]) = none := by decide

/-- V41 (two more bytes) and V44 (one byte less), by the SETTINGS arm. -/
theorem test_frmDecSet_V41_V44 :
    frmDecSet refSettings (bodyV40 ++ [0xAA#8, 0xBB#8, 0xE1#8, 0xA1#8]) = some (.settings reportV40) ∧
    frmDecSet refSettings (bodyV40.dropLast ++ [0x7A#8, 0x2A#8]) = some (.raw bodyV40.dropLast) := by
  decide

/-- V42, by the LIMITS arm. -/
theorem test_frmDecLim_V42 :
    frmDecLim refLimits (bodyV42 ++ [0x05#8, 0x4C#8]) = some (.limits reportV42) := by decide

/-- V45 to V48, V51. -/
theorem test_frmDec_short :
    frmDec refSettings refLimits [0x01#8, 0x03#8, 0x3C#8, 0x20#8, 0xE1#8] =
      some (.raw [0x01#8, 0x03#8, 0x3C#8]) ∧
    frmDec refSettings refLimits [0x01#8, 0x03#8, 0x40#8, 0x21#8] = some (.raw [0x01#8, 0x03#8]) ∧
    frmDec refSettings refLimits [0x01#8, 0x7E#8, 0x80#8] = some (.raw [0x01#8]) ∧
    frmDec refSettings refLimits [0xFF#8, 0xFF#8] = some (.raw []) ∧
    frmDec refSettings refLimits [] = none ∧ frmDec refSettings refLimits [0x2A#8] = none := by decide

/-- V49, V50, by the RAW arm. -/
theorem test_frmDecRaw_V49_V50 :
    next? (exec (.frmDecRaw [0x01#8, 0x83#8, 0x02#8, 0xC0#8, 0xF1#8]) State.reset) =
      some { State.reset with ret := .reply (.raw [0x01#8, 0x83#8, 0x02#8]) } ∧
    frmDecRaw [0x01#8, 0x06#8, 0x00#8, 0x00#8, 0x04#8, 0xB0#8, 0x8A#8, 0xBE#8] =
      some (.raw [0x01#8, 0x06#8, 0x00#8, 0x00#8, 0x04#8, 0xB0#8]) := by decide

/-- V51 through the operation: E_CRC is returned directly (R212). -/
theorem test_frmDec_bad_crc :
    next? (exec (.frmDec [0x2A#8]) State.reset) =
      some { State.reset with ret := .err .crc } := by decide

/-- V40 is `pack_fields(REF_SETTINGS, values, EE)` with its key and discriminator (R137). -/
theorem test_packFields_V40 :
    packFields refSettings (reportV40.map (fun e => e.2.raw)) 0xEE#8 =
      [0xEE#8, 0xEE#8, 0xEE#8] ++ bodyV40.drop 3 := by decide

/-- R82, R83: the reference instances meet the constraints on the schemas. -/
theorem test_reference_schemas_ok : refSettings.okSettings = true ∧ refLimits.okLimits = true := by
  decide

/-- R72: the rows of the reference instances stand in the data region; a row on the discriminator does not. -/
theorem test_rows_stand_in_data :
    refSettings.inData = true ∧ refLimits.inData = true ∧
    Schema.inData [⟨"set_voltage", .u16, 2, 100, false⟩] = false := by decide

/-! ## Session, slot layer (V60 to V76) -/

/-- A ready session at time 5000 with nothing pending. -/
def ready : State := { State.reset with sess := .ready, now := 5000 }

/-- The frame V30. -/
def frameV30 : ByteString := [0x01#8, 0x03#8, 0x00#8, 0x00#8, 0x00#8, 0x1E#8, 0xC5#8, 0xC2#8]

/-- The frame V107. -/
def frameV107 : ByteString := [0x01#8, 0x06#8, 0x00#8, 0x12#8, 0x00#8, 0x01#8, 0xE8#8, 0x0F#8]

/-- The state after V62: a direct write on 0x0103 is pending. -/
def written : State :=
  { ready with
    slots := [(0x0103#16, ⟨0x0103#16, 1, 6000, .host⟩)], txlog := [(frameV30, .ok)], ret := .accepted }

/-- V60, V74. -/
theorem test_V60_V74_sesConnect :
    next? (exec (.sesConnect [0x5A#8]) State.reset) =
      some { State.reset with sess := .connected, connlog := [([0x5A#8], .ok)], ret := .ok } ∧
    next? (exec (.sesConnect [0x5A#8]) { State.reset with ans := .error }) =
      some { State.reset with
        sess := .failed, ans := .error, connlog := [([0x5A#8], .error)], ret := .err .conn } := by
  decide

/-- V75, and R155: SES.SUBSCRIBE after a good connect. -/
theorem test_V75_sesSubscribe :
    next? (exec .sesSubscribe { State.reset with sess := .failed }) =
      some { State.reset with sess := .failed, ret := .err .notReady } ∧
    next? (exec .sesSubscribe { State.reset with sess := .connected }) =
      some { State.reset with sess := .ready, ret := .ok } := by decide

/-- V61, V62, V63. -/
theorem test_V61_V62_V63_corWrite :
    next? (exec (.corWrite 0x0103#16 frameV30) { State.reset with sess := .connected }) =
      some { State.reset with sess := .connected, ret := .err .notReady } ∧
    next? (exec (.corWrite 0x0103#16 frameV30) ready) = some written ∧
    next? (exec (.corWrite 0x0103#16 frameV30) { written with now := 5001 }) =
      some { written with now := 5001, ret := .err .busy } := by decide

/-- V64; the outcome records its key (R211). -/
theorem test_V64_corWrite_transport_error :
    next? (exec (.corWrite 0x0106#16 frameV107) { written with now := 5002, ans := .error }) =
      some { written with
        now := 5002, ans := .error, ret := .err .transport (some 0x0106#16),
        txlog := [(frameV30, .ok), (frameV107, .error)] } := by
  decide

/-- V65, V66: the reply of V40 resolves the slot once; its copy is unexpected. The schemas are the
spec's reference instances (R84, R85). -/
theorem test_V65_V66_corRx :
    corRxReply (bodyV40 ++ [0x2A#8, 0x39#8]) (.settings reportV40) written =
      { written with
        slots := [], donelog := [⟨.host, 0x0103#16, .resolved (.settings reportV40)⟩] } ∧
    corRxReply (bodyV40 ++ [0x2A#8, 0x39#8]) (.settings reportV40) ready =
      { ready with evlog := [.unexpected (some 0x0103#16) (.settings reportV40)] } := by decide

/-- V72, V71, V76. -/
theorem test_V72_V71_V76_corRx :
    next? (exec (.corRx [0x01#8, 0x03#8, 0x40#8, 0x21#8]) written) =
      some { written with
        slots := [], ret := .nothing,
        donelog := [⟨.host, 0x0103#16, .resolved (.raw [0x01#8, 0x03#8])⟩] } ∧
    next? (exec (.corRx [0x01#8, 0x7E#8, 0x80#8]) written) =
      some { written with ret := .nothing, evlog := [.unexpected none (.raw [0x01#8])] } ∧
    next? (exec (.corRx [0x01#8, 0x03#8, 0x40#8, 0x21#8]) { State.reset with sess := .connected }) =
      some { State.reset with sess := .connected, ret := .nothing } := by decide

/-- V67, V68, V69. -/
theorem test_V67_V68_V69_corExpire :
    next? (exec (.corExpire 0x0103#16) { ready with now := 6000 }) =
      some { ready with now := 6000, ret := .nothing } ∧
    next? (exec (.corExpire 0x0103#16) { written with now := 5999 }) =
      some { written with now := 5999, ret := .nothing } ∧
    next? (exec (.corExpire 0x0103#16) { written with now := 6000 }) =
      some { written with
        now := 6000, slots := [], ret := .nothing, donelog := [⟨.host, 0x0103#16, .timeout⟩] } := by
  decide

/-! ## Query unit and builders -/

/-- A query's attempt `n` on 0x0103 is pending, sent at 5000. -/
def waiting (n : Nat) : State :=
  { ready with
    slots := [(0x0103#16, ⟨0x0103#16, n, 6000, .query⟩)], qstate := .wait, qcode := 0x0103#16,
    qframe := frameV30, qattempt := n }

/-- A query whose attempt `n` has failed waits until 5000. -/
def backingOff (n : Nat) : State :=
  { ready with
    qstate := .backoff, qcode := 0x0103#16, qframe := frameV30, qattempt := n, qbackoffUntil := 5000 }

/-- R170, R171 (program P1, step 3); the last two query registers take free values (R31). -/
theorem test_qryStart_first_attempt :
    next? (exec (.qryStart 0x0103#16 frameV30) ready) =
      some { waiting 1 with
        txlog := [(frameV30, .ok)], qbackoffUntil := Config.freeBackoffUntil 0,
        qlasterr := (Config.freeLastErr 0).err, fresh := 1 } := rfl

/-- R175: a second query is held on the host port; R170: E_NOTREADY outside S_READY. -/
theorem test_qryStart_held_and_notReady :
    next? (exec (.qryStart 0x0106#16 [0x01#8]) (waiting 1)) =
      some { waiting 1 with
        ret := .held,
        env := { (waiting 1).env with host := [⟨.op, 0x38#8, [0x01#8], 0x0106#16, 0, 0⟩] } } ∧
    next? (exec (.qryStart 0x0103#16 frameV30) State.reset) =
      some { State.reset with donelog := [⟨.query, 0x0103#16, .notReady⟩] } := by decide

/-- R174 (program P2, step 3): the same bytes again, attempt 2. -/
theorem test_qryRetry_second_attempt :
    next? (exec .qryRetry (backingOff 1)) =
      some { backingOff 1 with
        slots := [(0x0103#16, ⟨0x0103#16, 2, 6000, .query⟩)], qstate := .wait, qattempt := 2,
        txlog := [(frameV30, .ok)] } := by decide

/-- R173 (program P2, step 6): the third deadline fails the query, with no further backoff. -/
theorem test_corExpire_third_attempt :
    next? (exec (.corExpire 0x0103#16) { waiting 3 with now := 6000 }) =
      some { waiting 3 with
        now := 6000, slots := [], qstate := .idle, qlasterr := .timeout,
        donelog := [⟨.query, 0x0103#16, .cmdFail 3 .timeout⟩] } := by decide

/-- R173 (program P2, step 2): the first deadline backs off. -/
theorem test_corExpire_first_attempt :
    next? (exec (.corExpire 0x0103#16) { waiting 1 with now := 6000 }) =
      some { waiting 1 with
        now := 6000, slots := [], qstate := .backoff, qlasterr := .timeout,
        qbackoffUntil := 6000 + Config.params.backoffMs } := rfl

/-- R196, R197, R198: the clamped operands of V90, V92, V97, V98. -/
theorem test_clampOperand_vectors :
    clampOperand (-500) vMax 100 = 0 ∧ clampOperand 99900 vMax 100 = 12500 ∧
    clampOperand 1200 vMax 100 = 1200 ∧ clampOperand 2201 iMax 100 = 2200 ∧
    clampOperand 1000000 blMax 1 = 5 ∧ clampOperand (-7) bzMax 1 = 0 ∧
    clampOperand 100001 toMax 1 = 100000 ∧ clampOperand 65536 toMax 1 = 65536 := by decide

/-- What a reference builder hands to the transport from `ready`. -/
def refSends (o : Host.Outcome State Fault Refusal) : Option (List ByteString) :=
  (next? o).map (fun t => t.txlog.map Prod.fst)

/-- A setter of the reference instance, run by the shared operation. -/
def refSet {hi : Nat} (i : Int → Instr) (t : SetterTemplate hi) (v : Int) : Option (List ByteString) :=
  refSends (sendSetter refParams none (i v) t v ready)

/-- A builder of the reference instance without operand, run by the shared operation. -/
def refPlain (i : Instr) (t : PlainTemplate) : Option (List ByteString) :=
  refSends (sendPlain refParams none i t ready)

/-- V90 to V94 (R196, R204). -/
theorem test_reference_cmdSetv :
    [-500, 0].map (refSet .cmdSetv refParams.setv) = List.replicate 2 (some
      [[0x01#8, 0x06#8, 0x00#8, 0x00#8, 0x00#8, 0x00#8, 0x89#8, 0xCA#8]]) ∧
    [99900, 12500].map (refSet .cmdSetv refParams.setv) = List.replicate 2 (some
      [[0x01#8, 0x06#8, 0x00#8, 0x00#8, 0x30#8, 0xD4#8, 0x9D#8, 0x95#8]]) ∧
    [1200].map (refSet .cmdSetv refParams.setv) = List.replicate 1 (some
      [[0x01#8, 0x06#8, 0x00#8, 0x00#8, 0x04#8, 0xB0#8, 0x8A#8, 0xBE#8]]) := by decide

/-- V95 to V97 (R197, R204). -/
theorem test_reference_cmdSeti :
    [150].map (refSet .cmdSeti refParams.seti) = List.replicate 1 (some
      [[0x01#8, 0x06#8, 0x00#8, 0x01#8, 0x00#8, 0x96#8, 0x58#8, 0x64#8]]) ∧
    [-1].map (refSet .cmdSeti refParams.seti) = List.replicate 1 (some
      [[0x01#8, 0x06#8, 0x00#8, 0x01#8, 0x00#8, 0x00#8, 0xD8#8, 0x0A#8]]) ∧
    [2201].map (refSet .cmdSeti refParams.seti) = List.replicate 1 (some
      [[0x01#8, 0x06#8, 0x00#8, 0x01#8, 0x08#8, 0x98#8, 0xDE#8, 0x60#8]]) := by decide

/-- V98, V99 (R198, R204). -/
theorem test_reference_cmdSetbl :
    [5, 6, 1000000].map (refSet .cmdSetbl refParams.setbl) = List.replicate 3 (some
      [[0x01#8, 0x06#8, 0x00#8, 0x14#8, 0x00#8, 0x05#8, 0x09#8, 0xCD#8]]) ∧
    [0, -1].map (refSet .cmdSetbl refParams.setbl) = List.replicate 2 (some
      [[0x01#8, 0x06#8, 0x00#8, 0x14#8, 0x00#8, 0x00#8, 0xC9#8, 0xCE#8]]) := by decide

/-- V100, V101 (R199, R204). -/
theorem test_reference_cmdSetbz :
    [1, 2].map (refSet .cmdSetbz refParams.setbz) = List.replicate 2 (some
      [[0x01#8, 0x06#8, 0x00#8, 0x1C#8, 0x00#8, 0x01#8, 0x89#8, 0xCC#8]]) ∧
    [0, -7].map (refSet .cmdSetbz refParams.setbz) = List.replicate 2 (some
      [[0x01#8, 0x06#8, 0x00#8, 0x1C#8, 0x00#8, 0x00#8, 0x48#8, 0x0C#8]]) := by decide

/-- V102 to V104 (R200, R204). -/
theorem test_reference_cmdSetto :
    [100000, 100001].map (refSet .cmdSetto refParams.setto) = List.replicate 2 (some
      [[0x01#8, 0x06#8, 0x00#8, 0x15#8, 0x00#8, 0x01#8, 0x86#8, 0xA0#8, 0xD9#8, 0xDC#8]]) ∧
    [65536].map (refSet .cmdSetto refParams.setto) = List.replicate 1 (some
      [[0x01#8, 0x06#8, 0x00#8, 0x15#8, 0x00#8, 0x01#8, 0x00#8, 0x00#8, 0xBB#8, 0xC4#8]]) ∧
    [0, -1].map (refSet .cmdSetto refParams.setto) = List.replicate 2 (some
      [[0x01#8, 0x06#8, 0x00#8, 0x15#8, 0x00#8, 0x00#8, 0x00#8, 0x00#8, 0xEA#8, 0x04#8]]) := by decide

/-- V105 to V109 (R194, R195, R201 to R203, R204). -/
theorem test_reference_plain :
    refPlain .cmdStatus refParams.status = some
      [[0x01#8, 0x03#8, 0x00#8, 0x00#8, 0x00#8, 0x1E#8, 0xC5#8, 0xC2#8]] ∧
    refPlain .cmdLimits refParams.readLimits = some
      [[0x01#8, 0x03#8, 0x00#8, 0x50#8, 0x00#8, 0x0E#8, 0xC4#8, 0x1F#8]] ∧
    refPlain .cmdOn refParams.on = some
      [[0x01#8, 0x06#8, 0x00#8, 0x12#8, 0x00#8, 0x01#8, 0xE8#8, 0x0F#8]] ∧
    refPlain .cmdOff refParams.off = some
      [[0x01#8, 0x06#8, 0x00#8, 0x12#8, 0x00#8, 0x00#8, 0x29#8, 0xCF#8]] ∧
    refPlain .cmdRestart refParams.restart = some
      [[0x01#8, 0x06#8, 0x00#8, 0xFF#8, 0x00#8, 0x01#8, 0x78#8, 0x3A#8]] := by decide

/-- R126, R58, U10: with a bound set, a longer frame is refused and one of exactly the bound is not. -/
theorem test_frmEncWithin_bound :
    refusal? (frmEncWithin (some 7) 0x0103#16 [0x00#8, 0x00#8, 0x00#8, 0x1E#8] State.reset) =
      some .frameTooLong ∧
    (next? (frmEncWithin (some 8) 0x0103#16 [0x00#8, 0x00#8, 0x00#8, 0x1E#8] State.reset)).map State.ret =
      some (.bytes frameV30) := by decide

/-- Program P5, step 3, for each builder: in S_FAILED it completes at once and sends nothing. -/
theorem test_builders_in_failed_session :
    [Instr.cmdStatus, .cmdLimits, .cmdSetv 1, .cmdSeti 1, .cmdSetbl 1, .cmdSetbz 1, .cmdSetto 1, .cmdOn,
      .cmdOff, .cmdRestart].map (fun i => match exec i { State.reset with sess := .failed } with
        | .next t => (t.txlog, t.qstate, t.donelog.map Done.outcome)
        | _ => ([], .wait, [])) = List.replicate 10 ([], .idle, [.notReady]) := by decide

/-- R211: the numbers of the error outcomes. -/
theorem test_error_numbers :
    [Err.crc, .timeout, .transport, .unexpected, .conn, .cmdFail, .busy, .notReady, .badOp].map
      Err.number = [1, 2, 3, 4, 5, 6, 7, 8, 9] := by decide

/-! ## Step -/

/-- R60: a turn of the host runs what waits on the host port, 7 ms later. -/
theorem test_step_runs_request :
    next? (step { State.reset with
      env := ⟨[⟨.host, 7, .ok⟩], [⟨.op, 0x20#8, [0x5A#8], 0#16, 0, 0⟩], [], [], []⟩ }) =
      some { State.reset with
        sess := .connected, now := 7, connlog := [([0x5A#8], .ok)], ret := .ok } := by decide

/-- R230: the host cannot inject COR.EXPIRE. -/
theorem test_step_refuses_injection :
    refusal? (step { State.reset with
      env := ⟨[⟨.host, 0, .ok⟩], [⟨.op, 0x41#8, [], 0#16, 0, 0⟩], [], [], []⟩ }) =
      some .wrongAgent := by decide

/-- With nothing placed the engine waits (log 3). -/
theorem test_step_reset_waits : next? (step State.reset) = some State.reset := by decide

/-! ## Witnesses: values that meet the hypotheses of the statements -/

/-- Positions at the ends of the ranges. -/
theorem witness_BitOrderPrimitivesMatchDefinitions :
    (7 < 8 ∧ (rev8 0x01#8).getLsbD 7 = true) ∧ (15 < 16 ∧ (rev16 0x0001#16).getLsbD 15 = true) ∧
    0 + 1 < [0x0B#8, 0xB8#8].length := by decide

/-- A frame of eight bytes under a bound of exactly eight, and of seven. -/
theorem witness_FrmEncBuildsVerifiedFrame :
    (frmEnc 0x0103#16 [0x00#8, 0x00#8, 0x00#8, 0x1E#8]).length ≤ 8 ∧
    7 < (frmEnc 0x0103#16 [0x00#8, 0x00#8, 0x00#8, 0x1E#8]).length := by decide

/-- A frame of one byte is shorter than two. -/
theorem witness_CrcVfyComparesTrailer : [0x37#8].length < 2 := by decide

/-- The last bit of the trailer (V14's kind), and the first bit. -/
theorem witness_SingleBitErrorsAreDetected :
    23 < 8 * ([0x01#8] ++ crcGen [0x01#8]).length ∧
    flipBit ([0x01#8] ++ crcGen [0x01#8]) 23 = [0x01#8, 0x7E#8, 0x00#8] ∧
    flipBit ([0x01#8] ++ crcGen [0x01#8]) 0 = [0x00#8, 0x7E#8, 0x80#8] := by decide

/-- The last offset that fits and the first that does not. -/
theorem witness_FldU16ReadsBigEndian :
    3 + 2 ≤ [0x01#8, 0x03#8, 0x3C#8, 0x0B#8, 0xB8#8].length ∧
    [0x01#8, 0x03#8, 0x3C#8, 0x0B#8, 0xB8#8].length < 4 + 2 := by decide

/-- The last offset that fits and the first that does not. -/
theorem witness_FldAcc32KeepsReorderedHalves :
    0 + 6 ≤ [0xE2#8, 0x40#8, 0xAA#8, 0xBB#8, 0x00#8, 0x01#8].length ∧
    [0xE2#8, 0x40#8, 0xAA#8, 0xBB#8, 0x00#8, 0x01#8].length < 1 + 6 := by decide

/-- A body of `n` bytes that begins with the key 0x0103 and the discriminator `d`. -/
def bodyOf (d : Byte) (n : Nat) : ByteString := ([0x01#8, 0x03#8, d] ++ List.replicate (n - 3) 0x00#8)

theorem bodyOf_length (d : Byte) {n : Nat} (h : 3 ≤ n) : (bodyOf d n).length = n := by
  simp [bodyOf]
  omega

theorem bodyOf_disc (d : Byte) (n : Nat) : (bodyOf d n)[2]? = some d := rfl

theorem bodyOf_frame_disc (d : Byte) (n : Nat) : (bodyOf d n ++ crcGen (bodyOf d n))[2]? = some d := rfl

/-- A schema with an accumulator needs six bytes. -/
theorem reqLen_of_acc32 {S : Schema} (h : S.countP (fun r => r.kind == .acc32) = 2) : 6 ≤ S.reqLen := by
  induction S with
  | nil => simp at h
  | cons r S ih =>
    by_cases hk : r.kind = .acc32
    · simp [Schema.reqLen, SchemaRow.footprint, hk]
    · exact (ih (by simpa [List.countP_cons, hk] using h)).trans (by simp [Schema.reqLen])

theorem settings_reqLen : 6 ≤ Config.params.settings.reqLen := by
  have h := Config.params.settings_ok
  simp only [Schema.okSettings, Bool.and_eq_true, beq_iff_eq] at h
  exact reqLen_of_acc32 (by simp only [h])

theorem limits_reqLen : 6 ≤ Config.params.limits.reqLen := by
  have h := Config.params.limits_ok
  simp only [Schema.okLimits, Bool.and_eq_true, beq_iff_eq] at h
  exact reqLen_of_acc32 (by simp only [h])

/-- A bad frame; a body of two bytes; bodies of exactly the length their schema needs. -/
theorem witness_FrmDecFollowsFourSteps :
    crcVfy [0x01#8, 0x03#8, 0x3C#8, 0x00#8, 0x00#8] = false ∧ [0x01#8, 0x03#8].length < 3 ∧
    ((bodyOf 0x3C#8 Config.params.settings.reqLen)[2]? = some 0x3C#8 ∧
      Config.params.settings.reqLen ≤ (bodyOf 0x3C#8 Config.params.settings.reqLen).length) ∧
    ((bodyOf 0x1C#8 Config.params.limits.reqLen)[2]? = some 0x1C#8 ∧
      Config.params.limits.reqLen ≤ (bodyOf 0x1C#8 Config.params.limits.reqLen).length) ∧
    [0x01#8, 0x83#8, 0x02#8][2]? = some 0x02#8 :=
  ⟨by decide, by decide, ⟨rfl, (bodyOf_length _ ((by decide : 3 ≤ 6).trans settings_reqLen)).ge⟩,
    ⟨rfl, (bodyOf_length _ ((by decide : 3 ≤ 6).trans limits_reqLen)).ge⟩, rfl⟩

/-- A body of exactly REQ_LEN bytes, and one with another key and a byte more; one a byte shorter; a bad
frame. -/
theorem witness_FrmDecSetReturnsSettingsReport :
    (let b := bodyOf 0x3C#8 Config.params.settings.reqLen
     let b' := b.set 0 0xAA#8 ++ [0xFF#8]
     (b ++ crcGen b)[2]? = some 0x3C#8 ∧ 3 ≤ b.length ∧ Config.params.settings.reqLen ≤ b.length ∧
      Config.params.settings.reqLen ≤ b'.length ∧
      (b'.take Config.params.settings.reqLen).drop 2 = (b.take Config.params.settings.reqLen).drop 2) ∧
    (let b := bodyOf 0x3C#8 (Config.params.settings.reqLen - 1)
     (b ++ crcGen b)[2]? = some 0x3C#8 ∧ b.length < Config.params.settings.reqLen) ∧
    ([0x01#8, 0x03#8, 0x3C#8, 0x00#8, 0x00#8][2]? = some 0x3C#8 ∧
      crcVfy [0x01#8, 0x03#8, 0x3C#8, 0x00#8, 0x00#8] = false) := by
  have h := settings_reqLen
  have h0 := bodyOf_length 0x3C#8 (n := Config.params.settings.reqLen) (by omega)
  have h1 := bodyOf_length 0x3C#8 (n := Config.params.settings.reqLen - 1) (by omega)
  refine ⟨⟨rfl, by omega, by omega, by simp; omega, ?_⟩, ⟨rfl, by omega⟩, rfl, by decide⟩
  rw [List.take_append_of_le_length (by simp; omega), List.take_set, List.drop_set_of_lt (by decide)]

/-- A body of exactly REQ_LEN bytes, one a byte shorter, and a bad frame. -/
theorem witness_FrmDecLimReturnsLimitsReport :
    (let b := bodyOf 0x1C#8 Config.params.limits.reqLen
     (b ++ crcGen b)[2]? = some 0x1C#8 ∧ 3 ≤ b.length ∧ Config.params.limits.reqLen ≤ b.length) ∧
    (let b := bodyOf 0x1C#8 (Config.params.limits.reqLen - 1)
     (b ++ crcGen b)[2]? = some 0x1C#8 ∧ b.length < Config.params.limits.reqLen) ∧
    ([0x01#8, 0x03#8, 0x1C#8, 0x00#8, 0x00#8][2]? = some 0x1C#8 ∧
      crcVfy [0x01#8, 0x03#8, 0x1C#8, 0x00#8, 0x00#8] = false) := by
  have h := limits_reqLen
  have h0 := bodyOf_length 0x1C#8 (n := Config.params.limits.reqLen) (by omega)
  have h1 := bodyOf_length 0x1C#8 (n := Config.params.limits.reqLen - 1) (by omega)
  exact ⟨⟨rfl, by omega, by omega⟩, ⟨rfl, by omega⟩, rfl, by decide⟩

theorem witness_FrmDecRawReturnsWholeBody : crcVfy [0x01#8, 0x83#8, 0x02#8, 0xC0#8, 0xF0#8] = false := by
  decide

theorem witness_FrmDecArmsAgreeWithFrmDec :
    (Instr.frmDecSet [0x01#8, 0x03#8, 0x3C#8]).wellFormed = true ∧
    (Instr.frmDecLim [0x01#8, 0x03#8, 0x1C#8]).wellFormed = true ∧
    (Instr.frmDecRaw [0x01#8, 0x03#8, 0x3D#8]).wellFormed = true ∧
    (Instr.frmDecRaw [0x01#8, 0x03#8]).wellFormed = true := by decide

/-- Each of the three conditions, the last two a byte below the schema's need. -/
theorem witness_ShortBodiesDecodeAsRawBytes :
    [0x01#8, 0x03#8].length < 3 ∧
    ((bodyOf 0x3C#8 (Config.params.settings.reqLen - 1))[2]? = some 0x3C#8 ∧
      (bodyOf 0x3C#8 (Config.params.settings.reqLen - 1)).length < Config.params.settings.reqLen) ∧
    ((bodyOf 0x1C#8 (Config.params.limits.reqLen - 1))[2]? = some 0x1C#8 ∧
      (bodyOf 0x1C#8 (Config.params.limits.reqLen - 1)).length < Config.params.limits.reqLen) := by
  have hs := settings_reqLen
  have hl := limits_reqLen
  have h0 := bodyOf_length 0x3C#8 (n := Config.params.settings.reqLen - 1) (by omega)
  have h1 := bodyOf_length 0x1C#8 (n := Config.params.limits.reqLen - 1) (by omega)
  exact ⟨by decide, ⟨rfl, by omega⟩, ⟨rfl, by omega⟩⟩

/-- V40's body is exactly REQ_LEN = 47 bytes (V41 appends two); its padding byte 17 is read by no row. -/
theorem witness_BytesBeyondSchemaAreIgnored :
    (refSettings.reqLen = 47 ∧ refSettings.reqLen ≤ bodyV40.length) ∧
    bodyV40.set 17 0xAA#8 ≠ bodyV40 ∧
    ∀ i ∈ refSettings.flatMap rowReads, (bodyV40.set 17 0xAA#8)[i]? = bodyV40[i]? := by decide

/-- A payload that starts beside each discriminator, and the empty payload. -/
theorem witness_EncodedCommandDecodesToItself :
    ([0x3D#8].head? ≠ some 0x3C#8 ∧ [0x3D#8].head? ≠ some 0x1C#8) ∧
    (([] : ByteString).head? ≠ some 0x3C#8 ∧ ([] : ByteString).head? ≠ some 0x1C#8) := by decide

/-- Two rows, one of each kind; and the reference schemas read no byte in common. -/
theorem witness_DecodeInvertsPack :
    (let S : Schema := [⟨"a", .u16, 2, 1, false⟩, ⟨"b", .acc32, 4, 1000, false⟩]
     let values : List Raw := [.u16 0xFFFF#16, .acc32 0xFFFFFFFF#32]
     (S.flatMap rowReads).Nodup ∧ S.length = values.length ∧
     ∀ p ∈ S.zip values, (p.1.kind = .u16 ↔ ∃ w, p.2 = .u16 w)) ∧
    (refSettings.flatMap rowReads).Nodup ∧ (refLimits.flatMap rowReads).Nodup :=
  ⟨⟨by decide, rfl, by simp⟩, by decide, by decide⟩

/-- A row's footprint is within REQ_LEN. -/
theorem footprint_le_reqLen {S : Schema} {row : SchemaRow} (h : row ∈ S) : row.footprint ≤ S.reqLen := by
  induction S with
  | nil => cases h
  | cons x xs ih =>
    rcases List.mem_cons.mp h with rfl | h
    · exact le_max_left _ _
    · exact (ih h).trans (le_max_right _ _)

/-- V40: the field "set voltage" of the reference schema; and a row of scale 100 of the engine's own schema,
over the bytes 0B B8 in a body of exactly REQ_LEN bytes. -/
theorem witness_SetVoltageExampleDecodesToThirty :
    ((⟨"set_voltage", .u16, 3, 100, false⟩ : SchemaRow) ∈ refSettings ∧ refSettings.fields.Nodup ∧
      bodyV40[3]? = some 0x0B#8 ∧ bodyV40[4]? = some 0xB8#8) ∧
    ∃ row ∈ Config.params.settings, row.kind = .u16 ∧ row.scale = 100 ∧
      let b := ((bodyOf 0x3C#8 Config.params.settings.reqLen).set row.off 0x0B#8).set (row.off + 1) 0xB8#8
      b[row.off]? = some 0x0B#8 ∧ b[row.off + 1]? = some 0xB8#8 ∧ b[2]? = some 0x3C#8 ∧
      Config.params.settings.reqLen ≤ b.length := by
  refine ⟨by decide, ?_⟩
  have h := Config.params.settings_ok
  simp only [Schema.okSettings, Bool.and_eq_true, decide_eq_true_eq] at h
  have hc : 0 < Config.params.settings.count .u16 100 := by omega
  obtain ⟨row, hr, hk⟩ := List.countP_pos_iff.mp hc
  simp only [Bool.and_eq_true, beq_iff_eq] at hk
  have hf : row.off + 2 ≤ Config.params.settings.reqLen := by
    simpa [SchemaRow.footprint, hk.1] using footprint_le_reqLen hr
  have hd : 3 ≤ row.off := dataOffset_le Config.params.settings_inData hr
  have hl := bodyOf_length 0x3C#8 (n := Config.params.settings.reqLen) (by omega)
  refine ⟨row, hr, hk.1, hk.2, ?_, ?_, ?_, ?_⟩
  · rw [List.getElem?_set_ne (by omega), List.getElem?_set_self (by omega)]
  · rw [List.getElem?_set_self (by simp; omega)]
  · rw [List.getElem?_set_ne (by omega), List.getElem?_set_ne (by omega)]
    rfl
  · simp [hl]

theorem witness_ConnectFollowsAdapterAnswerOnce :
    (State.reset.sess = .down ∧ State.reset.ans = .ok) ∧
    (let s := { State.reset with ans := .error }
     s.sess = .down ∧ s.ans = .error) ∧
    ready.sess ≠ .down := by decide

theorem witness_SubscribeMakesSessionReady :
    ({ State.reset with sess := .connected }).sess = .connected ∧ ready.sess = .ready ∧
    State.reset.sess = .down ∧ ({ State.reset with sess := .failed }).sess = .failed := by decide

theorem witness_SessionMovesOnlyForward : step State.reset = .next State.reset := rfl

theorem witness_FailedSessionRefusesOperations :
    ({ State.reset with sess := .failed }).sess = .failed ∧
    ({ State.reset with sess := .failed }).qstate = .idle := by decide

theorem witness_AcceptedWriteCreatesSlot :
    ready.sess = .ready ∧ ready.slots.get 0x0103#16 = none ∧ ready.ans = .ok := by decide

theorem witness_RefusedWriteChangesNothing :
    State.reset.sess ≠ .ready ∧ written.sess = .ready ∧ written.slots.get 0x0103#16 ≠ none := by decide

theorem witness_FailedWriteLeavesNoSlot :
    let s := { written with ans := .error }
    s.sess = .ready ∧ s.slots.get 0x0106#16 = none ∧ s.ans = .error := by decide

theorem witness_BadInboundFrameIsDroppedSilently :
    ({ State.reset with sess := .connected }).sess ≠ .ready ∧
    crcVfy (bodyV40.set 3 0x0A#8 ++ [0x2A#8, 0x39#8]) = false := by decide

/-- The reply of V46 and V72. -/
def rawReply : Reply := .raw [0x01#8, 0x03#8]

/-- The frame of V46 and V72: a body of the key alone, four bytes. -/
def keyFrame : ByteString := [0x01#8, 0x03#8, 0x40#8, 0x21#8]

/-- `keyFrame` decodes to `rawReply` whatever the schemas, and carries the key 0x0103. -/
theorem keyFrame_decodes :
    frmDec Config.params.settings Config.params.limits keyFrame = some rawReply ∧
    4 ≤ keyFrame.length ∧ be16At keyFrame 0 = 0x0103#16 := ⟨by decide, by decide, by decide⟩

/-- Three bytes, and four bytes with a key that has no slot. -/
theorem witness_UnexpectedReplyIsOnlyLogged :
    ready.sess = .ready ∧
    (frmDec Config.params.settings Config.params.limits [0x01#8, 0x7E#8, 0x80#8] = some (.raw [0x01#8]) ∧
      [0x01#8, 0x7E#8, 0x80#8].length < 4) ∧
    (frmDec Config.params.settings Config.params.limits keyFrame = some rawReply ∧
      4 ≤ keyFrame.length ∧ ready.slots.get (be16At keyFrame 0) = none) :=
  ⟨rfl, ⟨by decide, by decide⟩, keyFrame_decodes.1, by decide, by decide⟩

theorem witness_ReplyResolvesHostSlot :
    written.sess = .ready ∧ frmDec Config.params.settings Config.params.limits keyFrame = some rawReply ∧
    4 ≤ keyFrame.length ∧
    written.slots.get (be16At keyFrame 0) = some ⟨0x0103#16, 1, 6000, .host⟩ :=
  ⟨rfl, keyFrame_decodes.1, by decide, by decide⟩

theorem witness_ReplyResolvesQuerySlot :
    (waiting 2).sess = .ready ∧
    frmDec Config.params.settings Config.params.limits keyFrame = some rawReply ∧
    4 ≤ keyFrame.length ∧
    (waiting 2).slots.get (be16At keyFrame 0) = some ⟨0x0103#16, 2, 6000, .query⟩ :=
  ⟨rfl, keyFrame_decodes.1, by decide, by decide⟩

/-- Exactly at the deadline. -/
theorem witness_DeadlineTimesOutHostSlot :
    let s := { written with now := 6000 }
    let sl : Slot := ⟨0x0103#16, 1, 6000, .host⟩
    s.slots.get 0x0103#16 = some sl ∧ sl.deadline ≤ s.now ∧ sl.owner = .host := by decide

/-- Exactly at the deadline of the second and of the third attempt. -/
theorem witness_DeadlineFailsQueryAttempt :
    (let s := { waiting 2 with now := 6000 }
     s.slots.get 0x0103#16 = some ⟨0x0103#16, 2, 6000, .query⟩ ∧ 6000 ≤ s.now ∧ s.qattempt < 3) ∧
    (let s := { waiting 3 with now := 6000 }
     s.slots.get 0x0103#16 = some ⟨0x0103#16, 3, 6000, .query⟩ ∧ 6000 ≤ s.now ∧ ¬ s.qattempt < 3) := by
  decide

/-- An absent slot, one millisecond early, an idle unit, a backoff one millisecond early. -/
theorem witness_DisabledTimerStepsChangeNothing :
    ready.slots.get 0x0103#16 = none ∧
    (({ written with now := 5999 }).slots.get 0x0103#16 = some ⟨0x0103#16, 1, 6000, .host⟩ ∧
      ({ written with now := 5999 }).now < 6000) ∧
    ready.qstate ≠ .backoff ∧
    ({ backingOff 1 with now := 4999 }).now < ({ backingOff 1 with now := 4999 }).qbackoffUntil := by
  decide

theorem witness_ReplyAndDeadlineAreSafeInEitherOrder :
    let s := { waiting 3 with now := 6000 }
    s.sess = .ready ∧ frmDec Config.params.settings Config.params.limits keyFrame = some rawReply ∧
    4 ≤ keyFrame.length ∧ s.slots.get (be16At keyFrame 0) = some ⟨0x0103#16, 3, 6000, .query⟩ ∧
    6000 ≤ s.now :=
  ⟨rfl, keyFrame_decodes.1, by decide, by decide, by decide⟩

theorem witness_SecondCopyOfReplyIsUnexpected :
    written.sess = .ready ∧ frmDec Config.params.settings Config.params.limits keyFrame = some rawReply ∧
    4 ≤ keyFrame.length := ⟨rfl, keyFrame_decodes.1, by decide⟩

/-- A slot that stays, one that a deadline destroys, and one that a write creates. -/
theorem witness_SlotLifecycle :
    (∃ t, exec .sesSubscribe written = .next t ∧
      written.slots.get 0x0103#16 = some ⟨0x0103#16, 1, 6000, .host⟩ ∧
      t.slots.get 0x0103#16 = some ⟨0x0103#16, 1, 6000, .host⟩) ∧
    (∃ t, exec (.corExpire 0x0103#16) { written with now := 6000 } = .next t ∧
      t.slots.get 0x0103#16 = none) ∧
    (∃ t, exec (.corRx keyFrame) written = .next t ∧ t.slots.get 0x0103#16 = none) ∧
    (∃ t, exec (.corWrite 0x0103#16 frameV30) ready = .next t ∧
      ready.slots.get 0x0103#16 = none ∧
      t.slots.get 0x0103#16 = some ⟨0x0103#16, 1, 6000, .host⟩) :=
  ⟨⟨_, rfl, rfl, rfl⟩, ⟨_, rfl, by decide⟩, ⟨_, rfl, by decide⟩, ⟨_, rfl, by decide, by decide⟩⟩

theorem witness_QueryStartSendsFirstAttempt :
    ready.qstate = .idle ∧ ready.sess = .ready ∧ ready.slots.get 0x0103#16 = none ∧ ready.ans = .ok := by
  decide

/-- Not ready; the host's slot on the code; a transport error. -/
theorem witness_QueryStartWithoutAcceptedWrite :
    (State.reset.qstate = .idle ∧ State.reset.sess ≠ .ready) ∧
    (written.qstate = .idle ∧ written.sess = .ready ∧ written.slots.get 0x0103#16 ≠ none) ∧
    (let s := { ready with ans := .error }
     s.qstate = .idle ∧ s.sess = .ready ∧ s.slots.get 0x0103#16 = none ∧ s.ans = .error) := by decide

theorem witness_BusyQueryUnitHoldsFurtherQueries :
    startsQuery (.qryStart 0x0106#16 [0x01#8]) = true ∧ startsQuery (.cmdSetto (-1)) = true ∧
    (waiting 1).qstate ≠ .idle ∧ (backingOff 1).qstate ≠ .idle := by decide

/-- Exactly at the backoff's end. -/
theorem witness_RetrySendsSameFrameAgain :
    (backingOff 1).qstate = .backoff ∧ (backingOff 1).qbackoffUntil ≤ (backingOff 1).now ∧
    (backingOff 1).sess = .ready ∧ (backingOff 1).slots.get (backingOff 1).qcode = none ∧
    (backingOff 1).ans = .ok := by decide

/-- Both causes, each on the second and on the third attempt. -/
theorem witness_FailedRetryConsumesAnAttempt :
    (∀ n, n = 1 ∨ n = 2 →
      let s := { backingOff n with slots := [(0x0103#16, ⟨0x0103#16, 1, 6000, .host⟩)] }
      s.qstate = .backoff ∧ s.qbackoffUntil ≤ s.now ∧ s.sess = .ready ∧ s.slots.get s.qcode ≠ none) ∧
    (∀ n, n = 1 ∨ n = 2 →
      let s := { backingOff n with ans := .error }
      s.qstate = .backoff ∧ s.qbackoffUntil ≤ s.now ∧ s.sess = .ready ∧ s.slots.get s.qcode = none ∧
        s.ans = .error) ∧
    (backingOff 1).qattempt + 1 < 3 ∧ (backingOff 2).qattempt + 1 = 3 := by
  refine ⟨?_, ?_, by decide, by decide⟩ <;> rintro n (rfl | rfl) <;> decide

/-! ### States that meet the invariant -/

/-- The one slot of `written` or `waiting n`. -/
theorem get_single {k k' : Key} {sl sl' : Slot} (h : SlotTable.get [(k, sl)] k' = some sl') :
    k' = k ∧ sl' = sl := by
  by_cases e : k = k'
  · simpa [SlotTable.get, e, eq_comm] using h
  · simp [SlotTable.get, e] at h

theorem witness_inv_ready : ready.Inv := by
  constructor <;> simp [ready, State.reset, SlotTable.wf]

theorem witness_inv_written : written.Inv := by
  constructor
  case slots_wf => decide
  case wait_slot | ready_of_query | attempt_range | backoff_range | backoff_cause | lasterr_ne_crc =>
    simp [written, ready, State.reset]
  all_goals
    intro k sl h
    obtain ⟨rfl, rfl⟩ := get_single h
    simp [written, ready, maxAttempts, tAttemptMs]

theorem witness_inv_waiting {n : Nat} (h1 : 1 ≤ n) (h3 : n ≤ 3) : (waiting n).Inv := by
  constructor
  case slots_wf => simp [waiting, SlotTable.wf]
  case wait_slot => exact fun _ => ⟨_, rfl, rfl⟩
  case attempt_range => exact fun _ => ⟨h1, h3⟩
  case ready_of_query | backoff_range | backoff_cause | lasterr_ne_crc =>
    simp [waiting, ready, State.reset]
  all_goals
    intro k sl h
    obtain ⟨rfl, rfl⟩ := get_single h
    simp [waiting, ready, maxAttempts, tAttemptMs, h1, h3]

theorem witness_inv_backingOff {n : Nat} (h1 : 1 ≤ n) (h3 : n < 3) : (backingOff n).Inv := by
  constructor
  case slots_wf => simp [backingOff, ready, State.reset, SlotTable.wf]
  case attempt_range => exact fun _ => ⟨h1, h3.le⟩
  case backoff_range => exact fun _ => ⟨h3, Nat.le_add_right _ _⟩
  all_goals simp [backingOff, ready, State.reset]

/-- The invariant does not mention the adapter's answer. -/
theorem inv_with_ans {s : State} (h : s.Inv) (a : Answer) : State.Inv { s with ans := a } :=
  ⟨h.1, h.2, h.3, h.4, h.5, h.6, h.7, h.8, h.9, h.10, h.11, h.12⟩

/-- The invariant stays when time passes. -/
theorem inv_with_now {s : State} (h : s.Inv) {n : Nat} (hn : s.now ≤ n) : State.Inv { s with now := n } :=
  ⟨h.1, h.2, h.3, fun k sl hg => (h.4 k sl hg).trans (Nat.add_le_add_right hn _), h.5, h.6, h.7, h.8,
    h.9, fun hb => ⟨(h.10 hb).1, (h.10 hb).2.trans (Nat.add_le_add_right hn _)⟩, h.11, h.12⟩

/-- Every row of the table, from the top: a query's first write accepted, and not accepted. -/
theorem witness_QStateFollowsTransitionTable_idle :
    (ready.Inv ∧ ∃ t, exec (.qryStart 0x0103#16 frameV30) ready = .next t ∧ t.qstate = .wait) ∧
    (State.Inv { ready with ans := .error } ∧
      ∃ t, exec (.qryStart 0x0103#16 frameV30) { ready with ans := .error } = .next t ∧
        t.qstate = .backoff) :=
  ⟨⟨witness_inv_ready, _, rfl, rfl⟩, inv_with_ans witness_inv_ready _, _, rfl, rfl⟩

/-- A reply; the deadline of the first attempt; the deadline of the third. -/
theorem witness_QStateFollowsTransitionTable_wait :
    ((waiting 1).Inv ∧ ∃ t, exec (.corRx keyFrame) (waiting 1) = .next t ∧ t.qstate = .idle) ∧
    (State.Inv { waiting 1 with now := 6000 } ∧
      ∃ t, exec (.corExpire 0x0103#16) { waiting 1 with now := 6000 } = .next t ∧
        t.qstate = .backoff) ∧
    (State.Inv { waiting 3 with now := 6000 } ∧
      ∃ t, exec (.corExpire 0x0103#16) { waiting 3 with now := 6000 } = .next t ∧ t.qstate = .idle) :=
  ⟨⟨witness_inv_waiting (by decide) (by decide), _, rfl, rfl⟩,
    ⟨inv_with_now (witness_inv_waiting (by decide) (by decide)) (by decide), _, rfl, rfl⟩,
    ⟨inv_with_now (witness_inv_waiting (by decide) (by decide)) (by decide), _, rfl, rfl⟩⟩

/-- A retry whose write is accepted; a third attempt whose write is not. -/
theorem witness_QStateFollowsTransitionTable_backoff :
    ((backingOff 2).Inv ∧ ∃ t, exec .qryRetry (backingOff 2) = .next t ∧ t.qstate = .wait) ∧
    (State.Inv { backingOff 2 with ans := .error } ∧
      ∃ t, exec .qryRetry { backingOff 2 with ans := .error } = .next t ∧ t.qstate = .idle) :=
  ⟨⟨witness_inv_backingOff (by decide) (by decide), _, rfl, rfl⟩,
    inv_with_ans (witness_inv_backingOff (by decide) (by decide)) _, _, rfl, rfl⟩

/-- A completion of a query, and an operation that completes none. -/
theorem witness_EveryQueryCompletesExactlyOnce :
    ((waiting 1).Inv ∧ ∃ t, exec (.corRx keyFrame) (waiting 1) = .next t ∧
      (waiting 1).queryDones = 0 ∧ t.queryDones = 1) ∧
    (written.Inv ∧ ∃ t, exec (.corRx keyFrame) written = .next t ∧ t.queryDones = 0) :=
  ⟨⟨witness_inv_waiting (by decide) (by decide), _, rfl, by decide, by decide⟩,
    ⟨witness_inv_written, _, rfl, by decide⟩⟩

/-- Each deadline and backoff waited for to the millisecond. -/
theorem witness_UnansweredQueryFailsAfterThreeAttempts :
    let s : State := { ready with env :=
      { turns := [⟨.host, 0, .ok⟩, ⟨.timer, 1000, .ok⟩, ⟨.timer, Config.params.backoffMs, .ok⟩,
          ⟨.timer, 1000, .error⟩, ⟨.timer, Config.params.backoffMs, .ok⟩, ⟨.timer, 1000, .ok⟩],
        host := [encode (.qryStart 0x0103#16 frameV30)], internal := [], inbound := [],
        timer := [encode (.corExpire 0x0103#16), encode .qryRetry, encode (.corExpire 0x0103#16),
          encode .qryRetry, encode (.corExpire 0x0103#16)] } }
    s.sess = .ready ∧ s.qstate = .idle ∧ s.slots.get 0x0103#16 = none ∧ 1000 ≤ 1000 ∧
    Config.params.backoffMs ≤ Config.params.backoffMs ∧ s.env.turns.length = 6 ∧
    s.env.timer.length = 5 := ⟨rfl, rfl, rfl, le_rfl, le_rfl, rfl, rfl⟩

theorem witness_AcceptedBuilderSendsItsFrame :
    ready.qstate = .idle ∧ ready.sess = .ready ∧ ready.ans = .ok ∧
    ready.slots.get Config.params.status.code = none ∧ ready.slots.get Config.params.readLimits.code = none ∧
    ready.slots.get Config.params.setv.code = none ∧ ready.slots.get Config.params.seti.code = none ∧
    ready.slots.get Config.params.setbl.code = none ∧ ready.slots.get Config.params.setbz.code = none ∧
    ready.slots.get Config.params.setto.code = none ∧ ready.slots.get Config.params.on.code = none ∧
    ready.slots.get Config.params.off.code = none ∧ ready.slots.get Config.params.restart.code = none :=
  ⟨rfl, rfl, rfl, rfl, rfl, rfl, rfl, rfl, rfl, rfl, rfl, rfl, rfl⟩

theorem witness_BuilderExpandsToQueryStart : written.qstate = .idle := by decide

/-- One below, one above, and on each bound. -/
theorem witness_ClampReturnsBoundOrValue :
    (-1 : Int) < 0 ∧ ((0 : Int) ≤ 126 ∧ (125 : Int) < 126) ∧ ((0 : Int) ≤ 0 ∧ (0 : Int) ≤ 125) ∧
    ((0 : Int) ≤ 125 ∧ (125 : Int) ≤ 125) := by decide

/-- Equal clamps at the lower bound and at the upper (S5), and different ones. -/
theorem witness_SettersDependOnlyOnClampedOperand :
    ready.qstate = .idle ∧ clamp (-500) 0 (125 * 100 : Nat) = clamp 0 0 (125 * 100 : Nat) ∧
    clamp 99900 0 (125 * 100 : Nat) = clamp 12500 0 (125 * 100 : Nat) ∧ (0 : Int) ≤ 0 ∧
    ((125 * 100 : Nat) : Int) ≤ 12500 ∧ clamp 0 0 (125 * 100 : Nat) ≠ clamp 1 0 (125 * 100 : Nat) := by
  decide

/-- A builder that sends, one that is held, one before S_READY, one whose code is pending; and for the
bound: a first attempt and the last retry. -/
theorem witness_BuildersSendVerifiedFramesAtMostThrice :
    (startsQuery .cmdStatus = true ∧ (∀ c f, Instr.cmdStatus ≠ .qryStart c f) ∧
      ∃ t, exec .cmdStatus ready = .next t ∧
        t.txlog = [(frmEnc Config.params.status.code Config.params.status.payload, .ok)]) ∧
    (∃ t, exec .cmdStatus (waiting 1) = .next t ∧ t.txlog = []) ∧
    (∃ t, exec .cmdStatus State.reset = .next t ∧ t.txlog = []) ∧
    (ready.Inv ∧ ∃ t, exec (.qryStart 0x0103#16 frameV30) ready = .next t ∧ t.copiesLeft = 2) ∧
    ((backingOff 2).Inv ∧ (backingOff 2).copiesLeft = 1 ∧
      ∃ t, exec .qryRetry (backingOff 2) = .next t ∧ t.copiesLeft = 0 ∧ t.txlog.length = 1) :=
  ⟨⟨rfl, by simp, _, rfl, rfl⟩, ⟨_, rfl, rfl⟩, ⟨_, rfl, rfl⟩, ⟨witness_inv_ready, _, rfl, rfl⟩,
    witness_inv_backingOff (by decide) (by decide), by decide, _, rfl, by decide, by decide⟩

/-- The invariant before a step that runs an operation. -/
theorem witness_EveryStepKeepsInvariant :
    ready.Inv ∧ step ready = .next ready ∧
    (let s := { (backingOff 1) with env := ⟨[⟨.timer, 0, .ok⟩], [], [], [], [encode .qryRetry]⟩ }
     s.Inv ∧ ∃ t, step s = .next t ∧ t.qstate = .wait) := by
  refine ⟨witness_inv_ready, rfl, ?_, _, rfl, rfl⟩
  have h := witness_inv_backingOff (n := 1) (by decide) (by decide)
  exact ⟨h.1, h.2, h.3, h.4, h.5, h.6, h.7, h.8, h.9, h.10, h.11, h.12⟩

theorem witness_HistoriesOnlyGrow :
    let s := { State.reset with
      env := ⟨[⟨.host, 7, .ok⟩], [⟨.op, 0x20#8, [0x5A#8], 0#16, 0, 0⟩], [], [], []⟩ }
    ∃ t, step s = .next t ∧ t.connlog = [([0x5A#8], .ok)] ∧ t.now = 7 := ⟨_, rfl, rfl, rfl⟩

/-- A write on another key, a reply to another key, a query's attempt on another key. -/
theorem witness_OperationsTouchOnlyTheirOwnSlot :
    (∃ t, exec (.corWrite 0x0106#16 [0x01#8]) written = .next t ∧ (0x0106#16 : Key) ≠ 0x0103#16) ∧
    (∃ t, exec (.corRx keyFrame) { waiting 1 with
        slots := [(0x0103#16, ⟨0x0103#16, 1, 6000, .query⟩), (0x0106#16, ⟨0x0106#16, 1, 6000, .host⟩)] } =
      .next t ∧ be16At keyFrame 0 ≠ 0x0106#16) ∧
    (∃ t, exec .qryRetry (backingOff 1) = .next t ∧ t.qcode ≠ 0x0106#16) :=
  ⟨⟨_, rfl, by decide⟩, ⟨_, rfl, by decide⟩, ⟨_, rfl, by decide⟩⟩

theorem witness_StepRunsPresentedOperation :
    let r : Request := ⟨.op, 0x42#8, [], 0#16, 0, 0⟩
    let s := { backingOff 1 with env := ⟨[⟨.timer, 5, .ok⟩], [], [], [], [r]⟩ }
    s.env.turns = [⟨.timer, 5, .ok⟩] ∧ s.env.port .timer = [r] ∧ decode r = .ok .qryRetry ∧
    Instr.qryRetry.wellFormed = true ∧ Agent.timer ∈ Instr.qryRetry.agents :=
  ⟨rfl, rfl, rfl, rfl, by decide⟩

theorem witness_DecodeInvertsEncode :
    (Instr.frmDecRaw [0x01#8, 0x03#8, 0x00#8]).wellFormed = true ∧
    (Instr.fldU16 [0x0B#8, 0xB8#8] 0).wellFormed = true ∧ (Instr.cmdSetv (-500)).wellFormed = true := by
  decide

/-- The codes beside listed ones, and composites beside FRM.DEC's. -/
theorem witness_UnlistedSelectCodeChangesNothing :
    (∀ c ∈ [0x00#8, 0x03#8, 0x5A#8, 0xFF#8],
      let r : Request := ⟨.op, c, [], 0#16, 0, 0⟩
      let s := { ready with env := ⟨[⟨.host, 5, .ok⟩], [r], [], [], []⟩ }
      s.env.turns = [⟨.host, 5, .ok⟩] ∧ s.env.port .host = [r] ∧ r.format = .op ∧
      r.opsel.toNat ∉ [0x01, 0x02, 0x08, 0x09, 0x10, 0x11, 0x20, 0x21, 0x30, 0x38, 0x40, 0x41, 0x42,
        0x50, 0x51, 0x52, 0x53, 0x54, 0x55, 0x56, 0x57, 0x58, 0x59]) ∧
    (∀ c ∈ [0x10#8, 0x12#8],
      let r : Request := ⟨.opRpy, c, [0x01#8, 0x03#8, 0x3C#8], 0#16, 0, 0⟩
      let s := { ready with env := ⟨[⟨.host, 5, .ok⟩], [r], [], [], []⟩ }
      s.env.turns = [⟨.host, 5, .ok⟩] ∧ s.env.port .host = [r] ∧ r.format = .opRpy ∧
      r.opsel ≠ 0x11#8) := by decide

/-- The host presents COR.RX; an operation that is also internal, and its next state. -/
theorem witness_NoAgentInjectsAnothersOperation :
    let r : Request := ⟨.op, 0x40#8, [0x01#8], 0#16, 0, 0⟩
    let s := { ready with env := ⟨[⟨.host, 5, .ok⟩], [r], [], [], []⟩ }
    s.env.turns = [⟨.host, 5, .ok⟩] ∧ s.env.port .host = [r] ∧ decode r = .ok (.corRx [0x01#8]) ∧
    Agent.host ∉ (Instr.corRx [0x01#8]).agents ∧
    Agent.internal ∈ (Instr.frmEnc 0x0103#16 []).agents ∧
    (next? (exec (.frmEnc 0x0103#16 []) s)).isSome = true := by decide

end Sys2Proof.Tests
end

namespace Sys2Proof.Machine

/-! ## The bit and byte order primitives of R12, each by its bits or by its value as a number -/

/-! ### Bit order -/

/-- Reversal at any width: the one argument of `rev8` and `rev16`. -/
theorem getLsbD_reverse_of_lt {w : Nat} (x : BitVec w) {i : Nat} (hi : i < w) :
    x.reverse.getLsbD i = x.getLsbD (w - 1 - i) := by
  rw [BitVec.getLsbD_reverse, BitVec.getMsbD]
  simp [hi]

theorem rev8_getLsbD (b : Byte) {i : Nat} (hi : i < 8) : (rev8 b).getLsbD i = b.getLsbD (7 - i) :=
  getLsbD_reverse_of_lt b hi

theorem rev16_getLsbD (w : Word16) {i : Nat} (hi : i < 16) :
    (rev16 w).getLsbD i = w.getLsbD (15 - i) :=
  getLsbD_reverse_of_lt w hi

/-! ### Byte order -/

/-- Two bytes in one word: the shifted high byte and the low byte share no bit, so their `or` is a sum. -/
theorem shiftLeft_or_toNat {hi lo : Word16} (hhi : hi.toNat < 256) (hlo : lo.toNat < 256) :
    (hi <<< 8 ||| lo).toNat = hi.toNat * 256 + lo.toNat := by
  have noCarry : hi.toNat <<< 8 < 2 ^ 16 := by rw [Nat.shiftLeft_eq]; omega
  calc (hi <<< 8 ||| lo).toNat
      = hi.toNat <<< 8 ||| lo.toNat := by
        rw [BitVec.toNat_or, BitVec.toNat_shiftLeft, Nat.mod_eq_of_lt noCarry]
    _ = hi.toNat <<< 8 + lo.toNat := (Nat.shiftLeft_add_eq_or_of_lt hlo _).symm
    _ = hi.toNat * 256 + lo.toNat := by rw [Nat.shiftLeft_eq]

theorem lowByte_toNat (w : Word16) : (w &&& 0x00FF#16).toNat = w.toNat % 256 := by
  rw [BitVec.toNat_and]
  exact Nat.and_two_pow_sub_one_eq_mod w.toNat 8

theorem highByte_toNat (w : Word16) : (w >>> 8).toNat = w.toNat / 256 := by
  rw [BitVec.toNat_ushiftRight, Nat.shiftRight_eq_div_pow]

theorem swap16_toNat (w : Word16) : (swap16 w).toNat = w.toNat % 256 * 256 + w.toNat / 256 := by
  have hlow : (w &&& 0x00FF#16).toNat < 256 := by rw [lowByte_toNat]; omega
  have hhigh : (w >>> 8).toNat < 256 := by rw [highByte_toNat]; omega
  rw [swap16, shiftLeft_or_toNat hlow hhigh, lowByte_toNat, highByte_toNat]

theorem be16_map_toNat (w : Word16) :
    (be16 w).map BitVec.toNat = [w.toNat / 256, w.toNat % 256] := by
  have hhigh : w.toNat / 256 < 256 := by omega
  simp [be16, BitVec.extractLsb'_toNat, Nat.shiftRight_eq_div_pow, Nat.mod_eq_of_lt hhigh]

/-- Inside the string `byteAt` reads the byte there (R13). -/
theorem byteAt_eq_getElem (s : ByteString) {i : Nat} (h : i < s.length) : byteAt s i = s[i] :=
  List.getD_eq_getElem s 0#8 h

/-- The value of `BE16` at any offset, in terms of the bytes it reads. -/
theorem be16At_toNat (s : ByteString) (off : Nat) :
    (be16At s off).toNat = (byteAt s off).toNat * 256 + (byteAt s (off + 1)).toNat := by
  have widened (b : Byte) : (b.setWidth 16).toNat = b.toNat :=
    BitVec.toNat_setWidth_of_le (by decide)
  have isByte (b : Byte) : (b.setWidth 16).toNat < 256 := (widened b).symm ▸ b.isLt
  rw [be16At, shiftLeft_or_toNat (isByte _) (isByte _), widened, widened]

theorem be16At_toNat_of_lt (s : ByteString) (off : Nat) (h : off + 1 < s.length) :
    (be16At s off).toNat = s[off].toNat * 256 + s[off + 1].toNat := by
  rw [be16At_toNat, byteAt_eq_getElem s h, byteAt_eq_getElem s (Nat.lt_of_succ_lt h)]

/-- Settles O1: the general clauses by the lemmas above, R12's examples by evaluation. -/
theorem bitOrderPrimitivesMatchDefinitions : Obligations.BitOrderPrimitivesMatchDefinitions :=
  ⟨fun b _ hi => rev8_getLsbD b hi, fun w _ hi => rev16_getLsbD w hi, swap16_toNat, be16_map_toNat,
    be16At_toNat_of_lt, by decide⟩

end Sys2Proof.Machine

namespace Sys2Proof.Machine

/-! ## The slot table: which reads give a record after a write -/

theorem SlotTable.get_put_eq_some {t : SlotTable} {k k' : Key} {sl sl' : Slot} :
    (t.put k sl).get k' = some sl' ↔ (k' = k ∧ sl' = sl) ∨ (k' ≠ k ∧ t.get k' = some sl') := by
  by_cases hk : k' = k
  · subst hk; simp [eq_comm]
  · simp [hk, SlotTable.get_put_other hk]

theorem SlotTable.get_drop_eq_some {t : SlotTable} {k k' : Key} {sl : Slot} :
    (t.drop k).get k' = some sl ↔ k' ≠ k ∧ t.get k' = some sl := by
  by_cases hk : k' = k
  · subst hk; simp
  · simp [hk, SlotTable.get_drop_other hk]

/-! ## The waiter of a destroyed slot (R165, R168), by its owner -/

theorem deliverReply_of_host {sl : Slot} (ho : sl.owner = .host) (k : Key) (reply : Reply) (s : State) :
    deliverReply sl k reply s = s.complete .host k (.resolved reply) := by
  rw [deliverReply, ho]

theorem deliverReply_of_query {sl : Slot} (ho : sl.owner = .query) (k : Key) (reply : Reply)
    (s : State) : deliverReply sl k reply s = qryResolved reply s := by
  rw [deliverReply, ho]

theorem deliverTimeout_of_host {sl : Slot} (ho : sl.owner = .host) (P : Params) (k : Key) (s : State) :
    deliverTimeout P sl k s = s.complete .host k .timeout := by
  rw [deliverTimeout, ho]

theorem deliverTimeout_of_query {sl : Slot} (ho : sl.owner = .query) (P : Params) (k : Key)
    (s : State) : deliverTimeout P sl k s = qryAttemptFailed P .timeout s := by
  rw [deliverTimeout, ho]

/-! ## The invariant, one slot and one unit at a time -/

section Invariant

/-- What the invariant asks of one record of the slot table. -/
structure State.SlotOk (s : State) (k : Key) (sl : Slot) : Prop where
  key : sl.key = k
  attempt : 1 ≤ sl.attempt ∧ sl.attempt ≤ maxAttempts ∧ (sl.owner = .host → sl.attempt = 1)
  deadline : sl.deadline ≤ s.now + tAttemptMs
  query : sl.owner = .query → k = s.qcode ∧ s.qstate = .wait ∧ sl.attempt = s.qattempt
  ready : s.sess = .ready

/-- What the invariant asks of the query unit. -/
structure State.UnitOk (s : State) : Prop where
  wait_slot : s.qstate = .wait → ∃ sl, s.slots.get s.qcode = some sl ∧ sl.owner = .query
  ready : s.qstate ≠ .idle → s.sess = .ready
  attempt_range : s.qstate ≠ .idle → 1 ≤ s.qattempt ∧ s.qattempt ≤ maxAttempts
  backoff_range : s.qstate = .backoff → s.qattempt < maxAttempts ∧
    s.qbackoffUntil ≤ s.now + Config.params.backoffMs
  backoff_cause : s.qstate = .backoff →
    s.qlasterr = .timeout ∨ s.qlasterr = .transport ∨ s.qlasterr = .busy
  lasterr_ne_crc : s.qlasterr ≠ .crc

variable {s t : State} {k : Key} {sl : Slot}

theorem State.inv_iff :
    s.Inv ↔ SlotTable.wf s.slots ∧ (∀ k sl, s.slots.get k = some sl → s.SlotOk k sl) ∧ s.UnitOk where
  mp h := ⟨h.slots_wf,
    fun k sl hg => ⟨h.slot_key k sl hg, h.slot_attempt k sl hg, h.slot_deadline k sl hg,
      h.query_slot k sl hg, h.ready_of_slot k sl hg⟩,
    ⟨h.wait_slot, h.ready_of_query, h.attempt_range, h.backoff_range, h.backoff_cause,
      h.lasterr_ne_crc⟩⟩
  mpr h := by
    obtain ⟨hwf, hslot, hunit⟩ := h
    exact {
      hunit with
      slots_wf := hwf
      slot_key := fun k sl hg => (hslot k sl hg).key
      slot_attempt := fun k sl hg => (hslot k sl hg).attempt
      slot_deadline := fun k sl hg => (hslot k sl hg).deadline
      query_slot := fun k sl hg => (hslot k sl hg).query
      ready_of_slot := fun k sl hg => (hslot k sl hg).ready
      ready_of_query := hunit.ready }

theorem State.Inv.slotOk (h : s.Inv) (hg : s.slots.get k = some sl) : s.SlotOk k sl :=
  (State.inv_iff.mp h).2.1 k sl hg

theorem State.Inv.unitOk (h : s.Inv) : s.UnitOk := (State.inv_iff.mp h).2.2

/-- The state with everything blanked that the invariant does not read: the histories, the ports, the
frame and the model's own fields. -/
def State.control (s : State) : State :=
  { s with qframe := [], evlog := [], txlog := [], donelog := [], ret := .nothing, ans := .ok,
           connlog := [], fresh := 0, env := ⟨[], [], [], [], []⟩ }

theorem State.inv_control : s.control.Inv ↔ s.Inv := ⟨fun h => { h with }, fun h => { h with }⟩

/-- Outputs, ports and answers do not enter the invariant. -/
theorem State.Inv.of_control_eq (h : s.Inv) (hc : t.control = s.control) : t.Inv :=
  State.inv_control.mp (hc ▸ State.inv_control.mpr h)

/-- Time passing only loosens the two bounds that read the clock. -/
theorem State.Inv.advance (h : s.Inv) (d : Nat) : State.Inv { s with now := s.now + d } :=
  { h with
    slot_deadline := fun k sl hg => by have := h.slot_deadline k sl hg; dsimp only; omega
    backoff_range := fun hb => by have := h.backoff_range hb; dsimp only; omega }

theorem State.Inv.beginTurn (h : s.Inv) (u : Turn) (rest : List Turn) (e : Env) :
    ((s.beginTurn u rest).setEnv e).Inv :=
  (h.advance u.dt).of_control_eq rfl

/-- Outside a ready session there is neither a slot nor a query, so SESS may move (R157, R170). -/
theorem State.Inv.setSess (h : s.Inv) (hs : s.sess ≠ .ready) (x : Sess) : (s.setSess x).Inv :=
  { h with
    ready_of_slot := fun k sl hg => absurd (h.ready_of_slot k sl hg) hs
    ready_of_query := fun hq => absurd (h.ready_of_query hq) hs }

/-! ### Slots of the host -/

theorem State.Inv.owner_of_not_wait (h : s.Inv) (hw : s.qstate ≠ .wait)
    (hg : s.slots.get k = some sl) : sl.owner = .host := by
  cases ho : sl.owner with
  | host => rfl
  | query => exact absurd ((h.slotOk hg).query ho).2.1 hw

/-- A slot of the host does not speak of the query unit. -/
theorem State.SlotOk.of_host (h : s.SlotOk k sl) (ho : sl.owner = .host) (hsess : t.sess = s.sess)
    (hnow : t.now = s.now) : t.SlotOk k sl :=
  ⟨h.key, h.attempt, hnow ▸ h.deadline, by simp [ho], hsess ▸ h.ready⟩

/-- An accepted direct write (R156). -/
theorem State.Inv.putSlot_host (h : s.Inv) (hr : s.sess = .ready) (hn : s.slots.get k = none) :
    (s.putSlot k ⟨k, 1, s.now + tAttemptMs, .host⟩).Inv := by
  refine State.inv_iff.mpr ⟨SlotTable.wf_put h.slots_wf _ _, fun k' sl hg => ?_,
    { h.unitOk with wait_slot := fun hw => ?_ }⟩
  · rcases SlotTable.get_put_eq_some.mp hg with ⟨rfl, rfl⟩ | ⟨_, hg⟩
    · exact ⟨rfl, ⟨le_rfl, (by decide : 1 ≤ maxAttempts), fun _ => rfl⟩, le_rfl, nofun, hr⟩
    · exact { h.slotOk hg with }
  · obtain ⟨sl, hg, ho⟩ := h.wait_slot hw
    have hk : s.qcode ≠ k := fun e => by simp [e, hn] at hg
    exact ⟨sl, (SlotTable.get_put_other hk _ _).trans hg, ho⟩

/-- The end of a slot of the host (R165, R168). -/
theorem State.Inv.dropSlot_host (h : s.Inv) (hg : s.slots.get k = some sl) (ho : sl.owner = .host) :
    (s.dropSlot k).Inv := by
  refine State.inv_iff.mpr ⟨SlotTable.wf_drop h.slots_wf _, fun k' sl' hg' => ?_,
    { h.unitOk with wait_slot := fun hw => ?_ }⟩
  · exact { h.slotOk (SlotTable.get_drop_eq_some.mp hg').2 with }
  · obtain ⟨sl', hg', ho'⟩ := h.wait_slot hw
    have hk : s.qcode ≠ k := by
      rintro rfl
      cases hg.symm.trans hg'
      simp [ho] at ho'
    exact ⟨sl', (SlotTable.get_drop_other hk _).trans hg', ho'⟩

/-! ### The query unit

While the query owns no slot, the registers of the unit are tied to nothing else. So the states inside
a query step, where the unit is not yet set to its next state, are described by the invariant of the
state with the unit put to Q_IDLE. -/

theorem State.UnitOk.of_idle (hq : s.qstate = .idle) (he : s.qlasterr ≠ .crc) : s.UnitOk := by
  constructor <;> simp [hq, he]

/-- Without a slot of the query, the unit's registers may be replaced by any sound ones. -/
theorem State.Inv.of_unitOk (h : s.Inv) (hw : s.qstate ≠ .wait) (hslots : t.slots = s.slots)
    (hsess : t.sess = s.sess) (hnow : t.now = s.now) (hu : t.UnitOk) : t.Inv :=
  State.inv_iff.mpr ⟨hslots ▸ h.slots_wf,
    fun _ _ hg =>
      (h.slotOk (hslots ▸ hg)).of_host (h.owner_of_not_wait hw (hslots ▸ hg)) hsess hnow,
    hu⟩

/-- A query between two attempts: it owns no slot, and attempts are counted from 1 to MAX_ATTEMPTS. -/
structure State.BetweenAttempts (s : State) : Prop where
  idle_inv : (s.setQState .idle).Inv
  ready : s.sess = .ready
  attempt_range : 1 ≤ s.qattempt ∧ s.qattempt ≤ maxAttempts

/-- QRY.START of an idle unit (R170). -/
theorem State.Inv.loadQuery (h : s.Inv) (hq : s.qstate = .idle) (hr : s.sess = .ready) (c : Key)
    (f : ByteString) : (s.loadQuery c f).BetweenAttempts where
  idle_inv := h.of_unitOk (by simp [hq]) rfl rfl rfl
    (.of_idle rfl (Config.freeLastErr s.fresh).ne_crc)
  ready := hr
  attempt_range := ⟨le_rfl, (by decide : 1 ≤ maxAttempts)⟩

/-- QRY.RETRY counts the next attempt (R174). -/
theorem State.Inv.setAttempt (h : s.Inv) (hq : s.qstate = .backoff) :
    (s.setAttempt (s.qattempt + 1)).BetweenAttempts where
  idle_inv := h.of_unitOk (by simp [hq]) rfl rfl rfl (.of_idle rfl h.lasterr_ne_crc)
  ready := h.ready_of_query (by simp [hq])
  attempt_range := ⟨Nat.succ_pos _, (h.backoff_range hq).1⟩

/-- The end of the query's slot (R165, R168), the unit not yet set. -/
theorem State.Inv.dropSlot_query (h : s.Inv) (hg : s.slots.get k = some sl) (ho : sl.owner = .query) :
    (s.dropSlot k).BetweenAttempts := by
  obtain ⟨rfl, hw, _⟩ := (h.slotOk hg).query ho
  refine ⟨State.inv_iff.mpr ⟨SlotTable.wf_drop h.slots_wf _, fun k' sl' hg' => ?_,
    .of_idle rfl h.lasterr_ne_crc⟩, h.ready_of_slot _ _ hg, h.attempt_range (by simp [hw])⟩
  obtain ⟨hk', hg'⟩ := SlotTable.get_drop_eq_some.mp hg'
  have hhost : sl'.owner = .host := by
    cases ho' : sl'.owner with
    | host => rfl
    | query => exact absurd ((h.slotOk hg').query ho').1 hk'
  exact (h.slotOk hg').of_host hhost rfl rfl

/-- An attempt that was sent and accepted (R171). -/
theorem State.BetweenAttempts.send (h : s.BetweenAttempts) :
    ((s.putSlot s.qcode ⟨s.qcode, s.qattempt, s.now + tAttemptMs, .query⟩).setQState .wait).Inv := by
  refine State.inv_iff.mpr ⟨SlotTable.wf_put h.idle_inv.slots_wf _ _, fun k sl hg => ?_, ?_⟩
  · rcases SlotTable.get_put_eq_some.mp hg with ⟨rfl, rfl⟩ | ⟨_, hg⟩
    · exact ⟨rfl, ⟨h.attempt_range.1, h.attempt_range.2, nofun⟩, le_rfl, fun _ => ⟨rfl, rfl, rfl⟩,
        h.ready⟩
    · exact (h.idle_inv.slotOk hg).of_host (h.idle_inv.owner_of_not_wait nofun hg) rfl rfl
  · exact ⟨fun _ => ⟨_, SlotTable.get_put_same _ _ _, rfl⟩, fun _ => h.ready,
      fun _ => h.attempt_range, nofun, nofun, h.idle_inv.lasterr_ne_crc⟩

/-- A failed attempt backs off or ends the query (R173). -/
theorem State.BetweenAttempts.qryAttemptFailed (h : s.BetweenAttempts) {cause : Err}
    (hc : cause = .timeout ∨ cause = .transport ∨ cause = .busy) :
    (qryAttemptFailed Config.params cause s).Inv := by
  have hcrc : cause ≠ .crc := by rintro rfl; simp at hc
  rcases qryAttemptFailed_cases Config.params cause s with ⟨ha, e⟩ | ⟨_, e⟩ <;> rw [e]
  · exact h.idle_inv.of_unitOk nofun rfl rfl rfl
      ⟨nofun, fun _ => h.ready, fun _ => h.attempt_range, fun _ => ⟨ha, le_rfl⟩, fun _ => hc, hcrc⟩
  · exact h.idle_inv.of_unitOk nofun rfl rfl rfl (.of_idle rfl hcrc)

theorem State.BetweenAttempts.qryAttempt (h : s.BetweenAttempts) :
    (qryAttempt Config.params s).Inv := by
  rcases qryAttempt_cases Config.params s with
    ⟨_, _, _, e⟩ | ⟨_, _, _, e⟩ | ⟨_, _, e⟩ | ⟨hr, _⟩
  · exact e ▸ h.send.of_control_eq rfl
  · have hsent : (s.emitTx s.qframe).BetweenAttempts :=
      ⟨h.idle_inv.of_control_eq rfl, h.ready, h.attempt_range⟩
    exact e ▸ hsent.qryAttemptFailed (.inr (.inl rfl))
  · exact e ▸ h.qryAttemptFailed (.inr (.inr rfl))
  · exact absurd h.ready hr

/-! ### The operations -/

theorem qryStart_keeps_inv (h : s.Inv) (i : Instr) (c : Key) (f : ByteString) :
    (qryStart Config.params i c f s).Inv := by
  rcases qryStart_cases Config.params i c f s with ⟨_, e⟩ | ⟨_, _, e⟩ | ⟨hq, hr, e⟩ <;> rw [e]
  · exact h.of_control_eq rfl
  · exact h.of_control_eq rfl
  · exact (h.loadQuery hq hr c f).qryAttempt.of_control_eq rfl

theorem deliverReply_keeps_inv (h : s.Inv) (hg : s.slots.get k = some sl) (reply : Reply) :
    (deliverReply sl k reply (s.dropSlot k)).Inv := by
  cases ho : sl.owner with
  | host =>
    rw [deliverReply_of_host ho]
    exact (h.dropSlot_host hg ho).of_control_eq rfl
  | query =>
    rw [deliverReply_of_query ho]
    exact (h.dropSlot_query hg ho).idle_inv.of_control_eq rfl

theorem deliverTimeout_keeps_inv (h : s.Inv) (hg : s.slots.get k = some sl) :
    (deliverTimeout Config.params sl k (s.dropSlot k)).Inv := by
  cases ho : sl.owner with
  | host =>
    rw [deliverTimeout_of_host ho]
    exact (h.dropSlot_host hg ho).of_control_eq rfl
  | query =>
    rw [deliverTimeout_of_query ho]
    exact (h.dropSlot_query hg ho).qryAttemptFailed (.inl rfl)

theorem corRx_keeps_inv (h : s.Inv) (bytes : ByteString) : (corRx Config.params bytes s).Inv := by
  rcases corRx_cases Config.params bytes s with e | ⟨reply, _, _, e⟩ <;> rw [e]
  · exact h
  · rcases corRxReply_cases bytes reply s with ⟨_, e⟩ | ⟨_, _, e⟩ | ⟨sl, _, hg, e⟩ <;> rw [e]
    · exact h.of_control_eq rfl
    · exact h.of_control_eq rfl
    · exact deliverReply_keeps_inv h hg reply

theorem corExpire_keeps_inv (h : s.Inv) (k : Key) : (corExpire Config.params k s).Inv := by
  rcases corExpire_cases Config.params k s with e | ⟨sl, hg, _, e⟩ <;> rw [e]
  · exact h
  · exact deliverTimeout_keeps_inv h hg

theorem qryRetry_keeps_inv (h : s.Inv) : (qryRetry Config.params s).Inv := by
  rcases qryRetry_cases Config.params s with e | ⟨hq, _, e⟩ <;> rw [e]
  · exact h
  · exact (h.setAttempt hq).qryAttempt

theorem exec_keeps_inv {i : Instr} (h : s.Inv) (he : exec i s = .next t) : t.Inv := by
  rcases exec_next_cases he with
    ⟨_, _, r, rfl⟩ | ⟨a, _, hd, hans⟩ | ⟨_, hc, rfl⟩ | ⟨c, b, _, hr, hn, hans⟩ |
    ⟨c, f, _, rfl⟩ | ⟨b, _, rfl⟩ | ⟨k, _, rfl⟩ | ⟨_, rfl⟩
  · exact h.of_control_eq rfl
  · have hs : s.sess ≠ .ready := by simp [hd]
    rcases hans with ⟨_, rfl⟩ | ⟨_, rfl⟩
    · exact (h.setSess hs .connected).of_control_eq rfl
    · exact (h.setSess hs .failed).of_control_eq rfl
  · exact (h.setSess (by simp [hc]) .ready).of_control_eq rfl
  · rcases hans with ⟨_, rfl⟩ | ⟨_, rfl⟩
    · exact h.of_control_eq rfl
    · exact (h.putSlot_host hr hn).of_control_eq rfl
  · exact qryStart_keeps_inv h i c f
  · exact (corRx_keeps_inv h b).of_control_eq rfl
  · exact (corExpire_keeps_inv h k).of_control_eq rfl
  · exact (qryRetry_keeps_inv h).of_control_eq rfl

end Invariant

/-- Settles O51: each clause is a field of the reset state. -/
theorem resetEstablishesInitialState : Obligations.ResetEstablishesInitialState :=
  ⟨rfl, fun _ => rfl, rfl, rfl, rfl, rfl, rfl⟩

/-- Settles O52: there is no slot, and the unit is idle. -/
theorem invariantHoldsAtReset : Obligations.InvariantHoldsAtReset :=
  State.inv_iff.mpr ⟨.nil, nofun, .of_idle rfl (by decide)⟩

/-- Settles O53: time passing keeps the invariant, and so does the operation of the turn. -/
theorem everyStepKeepsInvariant : Obligations.EveryStepKeepsInvariant := by
  intro s t h hstep
  rcases step_next_cases hstep with
    ⟨_, rfl⟩ | ⟨u, rest, _, rfl⟩ | ⟨u, rest, e, _, rfl⟩ | ⟨u, rest, e, i, _, _, he⟩
  · exact h
  · exact (h.beginTurn u rest s.env).of_control_eq rfl
  · exact (h.beginTurn u rest e).of_control_eq rfl
  · exact exec_keeps_inv (h.beginTurn u rest e) he

/-! ## What a step adds to the histories, and what it leaves unchanged -/

/-- A history after a step: as it was, or with one entry more at its end. -/
def AtMostOneMore {α : Type} (before after : List α) : Prop :=
  after = before ∨ ∃ x, after = before ++ [x]

theorem AtMostOneMore.refl {α : Type} (l : List α) : AtMostOneMore l l := .inl rfl

theorem AtMostOneMore.concat {α : Type} (l : List α) (x : α) : AtMostOneMore l (l ++ [x]) :=
  .inr ⟨x, rfl⟩

theorem AtMostOneMore.grows {α : Type} {before after : List α} (h : AtMostOneMore before after) :
    before <+: after ∧ after.length ≤ before.length + 1 := by
  rcases h with rfl | ⟨x, rfl⟩ <;> simp

section Histories
variable {s t : State}

/-- From `s` to `t` only the query unit's registers and results may change, and at most one completion
is delivered. -/
def State.Delivers (s t : State) : Prop :=
  t.slots = s.slots ∧ t.sess = s.sess ∧ t.now = s.now ∧ t.connlog = s.connlog ∧ t.evlog = s.evlog ∧
    t.txlog = s.txlog ∧ AtMostOneMore s.donelog t.donelog

/-- From `s` to `t` the session, the clock and the connect calls stay, and each other history takes at
most one entry. -/
def State.Emits (s t : State) : Prop :=
  t.sess = s.sess ∧ t.now = s.now ∧ t.connlog = s.connlog ∧ AtMostOneMore s.evlog t.evlog ∧
    AtMostOneMore s.txlog t.txlog ∧ AtMostOneMore s.donelog t.donelog

theorem State.Emits.refl (s : State) : s.Emits s := ⟨rfl, rfl, rfl, .refl _, .refl _, .refl _⟩

theorem State.Delivers.emits (h : s.Delivers t) : s.Emits t := by
  obtain ⟨_, hsess, hnow, hconn, hev, htx, hdone⟩ := h
  exact ⟨hsess, hnow, hconn, .inl hev, .inl htx, hdone⟩

theorem qryAttemptFailed_delivers (P : Params) (cause : Err) (s : State) :
    s.Delivers (qryAttemptFailed P cause s) := by
  rcases qryAttemptFailed_cases P cause s with ⟨_, e⟩ | ⟨_, e⟩ <;> rw [e]
  · exact ⟨rfl, rfl, rfl, rfl, rfl, rfl, .refl _⟩
  · exact ⟨rfl, rfl, rfl, rfl, rfl, rfl, .concat _ _⟩

theorem deliverReply_delivers (sl : Slot) (k : Key) (reply : Reply) (s : State) :
    s.Delivers (deliverReply sl k reply s) := by
  cases ho : sl.owner with
  | host => exact deliverReply_of_host ho k reply s ▸ ⟨rfl, rfl, rfl, rfl, rfl, rfl, .concat _ _⟩
  | query => exact deliverReply_of_query ho k reply s ▸ ⟨rfl, rfl, rfl, rfl, rfl, rfl, .concat _ _⟩

theorem deliverTimeout_delivers (P : Params) (sl : Slot) (k : Key) (s : State) :
    s.Delivers (deliverTimeout P sl k s) := by
  cases ho : sl.owner with
  | host => exact deliverTimeout_of_host ho P k s ▸ ⟨rfl, rfl, rfl, rfl, rfl, rfl, .concat _ _⟩
  | query => exact deliverTimeout_of_query ho P k s ▸ qryAttemptFailed_delivers P .timeout s

/-- The frame of an attempt is its one TXLOG entry; a completion comes only from its failure. -/
theorem qryAttempt_emits (P : Params) (s : State) : s.Emits (qryAttempt P s) := by
  rcases qryAttempt_cases P s with ⟨_, _, _, e⟩ | ⟨_, _, _, e⟩ | ⟨_, _, e⟩ | ⟨_, e⟩ <;> rw [e]
  · exact ⟨rfl, rfl, rfl, .refl _, .concat _ _, .refl _⟩
  · obtain ⟨_, hsess, hnow, hconn, hev, htx, hdone⟩ :=
      qryAttemptFailed_delivers P .transport (s.emitTx s.qframe)
    exact ⟨hsess, hnow, hconn, .inl hev, .inr ⟨_, htx⟩, hdone⟩
  · exact (qryAttemptFailed_delivers P .busy s).emits
  · exact (qryAttemptFailed_delivers P .notReady s).emits

theorem qryStart_emits (P : Params) (i : Instr) (c : Key) (f : ByteString) (s : State) :
    s.Emits (qryStart P i c f s) := by
  rcases qryStart_cases P i c f s with ⟨_, e⟩ | ⟨_, _, e⟩ | ⟨_, _, e⟩ <;> rw [e]
  · exact .refl s
  · exact ⟨rfl, rfl, rfl, .refl _, .refl _, .concat _ _⟩
  · exact qryAttempt_emits P (s.loadQuery c f)

theorem corRx_emits (P : Params) (bytes : ByteString) (s : State) : s.Emits (corRx P bytes s) := by
  rcases corRx_cases P bytes s with e | ⟨reply, _, _, e⟩ <;> rw [e]
  · exact .refl s
  · rcases corRxReply_cases bytes reply s with ⟨_, e⟩ | ⟨_, _, e⟩ | ⟨sl, _, _, e⟩ <;> rw [e]
    · exact ⟨rfl, rfl, rfl, .concat _ _, .refl _, .refl _⟩
    · exact ⟨rfl, rfl, rfl, .concat _ _, .refl _, .refl _⟩
    · exact (deliverReply_delivers sl (be16At (body bytes) 0) reply (s.dropSlot _)).emits

theorem corExpire_emits (P : Params) (k : Key) (s : State) : s.Emits (corExpire P k s) := by
  rcases corExpire_cases P k s with e | ⟨sl, _, _, e⟩ <;> rw [e]
  · exact .refl s
  · exact (deliverTimeout_delivers P sl k (s.dropSlot k)).emits

theorem qryRetry_emits (P : Params) (s : State) : s.Emits (qryRetry P s) := by
  rcases qryRetry_cases P s with e | ⟨_, _, e⟩ <;> rw [e]
  · exact .refl s
  · exact qryAttempt_emits P (s.setAttempt _)

/-- Every operation but an effective session step only emits; a session step moves SESS along its
lifecycle and may call the adapter's connect once. -/
theorem exec_emits_or_session {i : Instr} (h : exec i s = .next t) :
    s.Emits t ∨
    (s.sess.mayBecome t.sess ∧ t.now = s.now ∧ AtMostOneMore s.connlog t.connlog ∧
      t.evlog = s.evlog ∧ t.txlog = s.txlog ∧ t.donelog = s.donelog) := by
  rcases exec_next_cases h with
    ⟨_, _, r, rfl⟩ | ⟨a, _, hd, hans⟩ | ⟨_, hc, rfl⟩ | ⟨c, b, _, _, _, hans⟩ |
    ⟨c, f, _, rfl⟩ | ⟨b, _, rfl⟩ | ⟨k, _, rfl⟩ | ⟨_, rfl⟩
  · exact .inl (.refl s)
  · rcases hans with ⟨_, rfl⟩ | ⟨_, rfl⟩
    · exact .inr ⟨.inr (.inl ⟨hd, .inl rfl⟩), rfl, .concat _ _, rfl, rfl, rfl⟩
    · exact .inr ⟨.inr (.inl ⟨hd, .inr rfl⟩), rfl, .concat _ _, rfl, rfl, rfl⟩
  · exact .inr ⟨.inr (.inr ⟨hc, rfl⟩), rfl, .refl _, rfl, rfl, rfl⟩
  · rcases hans with ⟨_, rfl⟩ | ⟨_, rfl⟩ <;>
      exact .inl ⟨rfl, rfl, rfl, .refl _, .concat _ _, .refl _⟩
  · exact .inl (qryStart_emits Config.params i c f s)
  · exact .inl (corRx_emits Config.params b s)
  · exact .inl (corExpire_emits Config.params k s)
  · exact .inl (qryRetry_emits Config.params s)

/-- Of a step: SESS moves along its lifecycle (R25), NOW does not decrease (R32), and each history takes
at most one entry (R33, R34, R42). -/
theorem step_moves_and_emits (h : step s = .next t) :
    s.sess.mayBecome t.sess ∧ s.now ≤ t.now ∧ AtMostOneMore s.connlog t.connlog ∧
      AtMostOneMore s.evlog t.evlog ∧ AtMostOneMore s.txlog t.txlog ∧
      AtMostOneMore s.donelog t.donelog := by
  rcases step_next_cases h with
    ⟨_, rfl⟩ | ⟨u, rest, _, rfl⟩ | ⟨u, rest, e, _, rfl⟩ | ⟨u, rest, e, i, _, _, he⟩
  · exact ⟨.inl rfl, le_rfl, .refl _, .refl _, .refl _, .refl _⟩
  · exact ⟨.inl rfl, Nat.le_add_right _ _, .refl _, .refl _, .refl _, .refl _⟩
  · exact ⟨.inl rfl, Nat.le_add_right _ _, .refl _, .refl _, .refl _, .refl _⟩
  · have advanced (hn : t.now = s.now + u.dt) : s.now ≤ t.now := hn ▸ Nat.le_add_right _ _
    rcases exec_emits_or_session he with
      ⟨hsess, hnow, hconn, hev, htx, hdone⟩ | ⟨hsess, hnow, hconn, hev, htx, hdone⟩
    · exact ⟨.inl hsess, advanced hnow, .inl hconn, hev, htx, hdone⟩
    · exact ⟨hsess, advanced hnow, hconn, .inl hev, .inl htx, .inl hdone⟩

end Histories

/-- Settles O23: only the two session steps move SESS. -/
theorem sessionMovesOnlyForward : Obligations.SessionMovesOnlyForward :=
  fun _ _ h => (step_moves_and_emits h).1

/-- Settles O54: a history with at most one entry more has the old one at its beginning. -/
theorem historiesOnlyGrow : Obligations.HistoriesOnlyGrow := by
  intro s t h
  obtain ⟨_, hnow, hconn, hev, htx, hdone⟩ := step_moves_and_emits h
  exact ⟨⟨hev.grows.1, htx.grows.1, hdone.grows.1, hconn.grows.1, hnow⟩, htx.grows.2, hdone.grows.2,
    hev.grows.2⟩

/-! ## What an operation does to the slot table -/

theorem byteAt_take (b : ByteString) {n i : Nat} (h : i < n) : byteAt (b.take n) i = byteAt b i := by
  simp [byteAt, List.getD_eq_getElem?_getD, h]

/-- The key of a frame stands in its body (R163), so it may be read from the frame. -/
theorem be16At_body {bytes : ByteString} (h : keyLen ≤ (body bytes).length) :
    be16At (body bytes) 0 = be16At bytes 0 := by
  have hlen : 2 ≤ bytes.length - trailerLen := by
    rw [body, List.length_take, keyLen] at h
    omega
  rw [be16At, be16At, body, byteAt_take bytes (by omega), byteAt_take bytes (by omega)]

theorem qryAttemptFailed_slots (P : Params) (cause : Err) (s : State) :
    (qryAttemptFailed P cause s).slots = s.slots :=
  (qryAttemptFailed_delivers P cause s).1

/-- The slot a query's attempt creates, if any, is that of QCODE with the current attempt (R171). -/
theorem qryAttempt_slots (P : Params) (s : State) :
    (qryAttempt P s).slots = s.slots ∨
    (s.slots.get (qryAttempt P s).qcode = none ∧ (qryAttempt P s).slots =
      s.slots.put (qryAttempt P s).qcode
        ⟨(qryAttempt P s).qcode, (qryAttempt P s).qattempt, s.now + tAttemptMs, .query⟩) := by
  rcases qryAttempt_cases P s with ⟨_, hn, _, e⟩ | ⟨_, _, _, e⟩ | ⟨_, _, e⟩ | ⟨_, e⟩ <;> rw [e]
  · exact .inr ⟨hn, rfl⟩
  · exact .inl (qryAttemptFailed_slots _ _ _)
  · exact .inl (qryAttemptFailed_slots _ _ _)
  · exact .inl (qryAttemptFailed_slots _ _ _)

/-- Everything an operation can do to the slot table (R29): nothing; create the slot of a direct write;
create the query's slot; destroy the slot of a verified frame's key; destroy a slot whose deadline has
come. -/
theorem exec_slots_cases {i : Instr} {s t : State} (h : exec i s = .next t) :
    t.slots = s.slots ∨
    (∃ c b, i = .corWrite c b ∧ s.slots.get c = none ∧
      t.slots = s.slots.put c ⟨c, 1, s.now + tAttemptMs, .host⟩) ∨
    ((startsQuery i = true ∨ i = .qryRetry) ∧ s.slots.get t.qcode = none ∧
      t.slots = s.slots.put t.qcode ⟨t.qcode, t.qattempt, s.now + tAttemptMs, .query⟩) ∨
    (∃ bytes reply sl, i = .corRx bytes ∧ s.sess = .ready ∧
      frmDec Config.params.settings Config.params.limits bytes = some reply ∧
      s.slots.get (be16At bytes 0) = some sl ∧ t.slots = s.slots.drop (be16At bytes 0) ∧
      (sl.owner = .host → t.donelog = s.donelog ++ [⟨.host, be16At bytes 0, .resolved reply⟩])) ∨
    (∃ c sl, i = .corExpire c ∧ s.slots.get c = some sl ∧ sl.deadline ≤ s.now ∧
      t.slots = s.slots.drop c ∧
      (sl.owner = .host → t.donelog = s.donelog ++ [⟨.host, c, .timeout⟩])) := by
  rcases exec_next_cases h with
    ⟨_, _, r, rfl⟩ | ⟨a, _, _, hans⟩ | ⟨_, _, rfl⟩ | ⟨c, b, hi, _, hn, hans⟩ |
    ⟨c, f, hi, rfl⟩ | ⟨b, hi, rfl⟩ | ⟨c, hi, rfl⟩ | ⟨hi, rfl⟩
  · exact .inl rfl
  · rcases hans with ⟨_, rfl⟩ | ⟨_, rfl⟩ <;> exact .inl rfl
  · exact .inl rfl
  · rcases hans with ⟨_, rfl⟩ | ⟨_, rfl⟩
    · exact .inl rfl
    · exact .inr (.inl ⟨c, b, hi, hn, rfl⟩)
  · rcases qryStart_cases Config.params i c f s with ⟨_, e⟩ | ⟨_, _, e⟩ | ⟨_, _, e⟩ <;> rw [e]
    · exact .inl rfl
    · exact .inl rfl
    · rcases qryAttempt_slots Config.params (s.loadQuery c f) with hs | ⟨hn, hs⟩
      · exact .inl hs
      · exact .inr (.inr (.inl ⟨.inl hi, hn, hs⟩))
  · rcases corRx_cases Config.params b s with e | ⟨reply, hr, hd, e⟩ <;> rw [e]
    · exact .inl rfl
    · rcases corRxReply_cases b reply s with ⟨_, e⟩ | ⟨_, _, e⟩ | ⟨sl, hlen, hg, e⟩ <;> rw [e]
      · exact .inl rfl
      · exact .inl rfl
      · rw [be16At_body hlen] at hg ⊢
        exact .inr (.inr (.inr (.inl ⟨b, reply, sl, hi, hr, hd, hg,
          (deliverReply_delivers sl _ reply (s.dropSlot _)).1,
          fun ho => by rw [deliverReply_of_host ho]; rfl⟩)))
  · rcases corExpire_cases Config.params c s with e | ⟨sl, hg, hd, e⟩ <;> rw [e]
    · exact .inl rfl
    · exact .inr (.inr (.inr (.inr ⟨c, sl, hi, hg, hd,
        (deliverTimeout_delivers Config.params sl c (s.dropSlot c)).1,
        fun ho => by rw [deliverTimeout_of_host ho]; rfl⟩)))
  · rcases qryRetry_cases Config.params s with e | ⟨_, _, e⟩ <;> rw [e]
    · exact .inl rfl
    · rcases qryAttempt_slots Config.params (s.setAttempt (s.qattempt + 1)) with hs | ⟨hn, hs⟩
      · exact .inl hs
      · exact .inr (.inr (.inl ⟨.inr hi, hn, hs⟩))

/-- Settles O37: a slot that reads the same before and after fits every clause; else its key is the one
that the operation wrote. -/
theorem slotLifecycle : Obligations.SlotLifecycle := by
  intro i s t k h
  by_cases same : t.slots.get k = s.slots.get k
  · rw [same]
    exact ⟨fun sl sl' hg hg' => Option.some.inj (hg'.symm.trans hg),
      fun sl hg hn => by simp [hg] at hn, fun sl hn hg => by simp [hn] at hg⟩
  have key_of_put {c : Key} {sl : Slot} (hs : t.slots = s.slots.put c sl) : k = c :=
    not_not.mp fun hk => same (by rw [hs, SlotTable.get_put_other hk])
  have key_of_drop {c : Key} (hs : t.slots = s.slots.drop c) : k = c :=
    not_not.mp fun hk => same (by rw [hs, SlotTable.get_drop_other hk])
  rcases exec_slots_cases h with
    hs | ⟨c, b, hi, hn, hs⟩ | ⟨hi, hn, hs⟩ | ⟨b, reply, sl₀, hi, hr, hd, hg, hs, hdone⟩ |
    ⟨c, sl₀, hi, hg, hd, hs, hdone⟩
  · exact absurd (by rw [hs]) same
  · obtain rfl := key_of_put hs
    refine ⟨by simp [hn], by simp [hn], fun sl _ hsl => ?_⟩
    rw [hs, SlotTable.get_put_same] at hsl
    cases hsl
    exact ⟨rfl, rfl, .inl ⟨rfl, rfl, b, hi⟩⟩
  · have hk := key_of_put hs
    rw [← hk] at hn hs
    refine ⟨by simp [hn], by simp [hn], fun sl _ hsl => ?_⟩
    rw [hs, SlotTable.get_put_same] at hsl
    cases hsl
    exact ⟨rfl, rfl, .inr ⟨rfl, hk, rfl, hi⟩⟩
  · obtain rfl := key_of_drop hs
    refine ⟨by simp [hs], fun sl hsl _ => ?_, by simp [hg]⟩
    cases hg.symm.trans hsl
    exact .inl ⟨b, reply, hi, hr, rfl, hd, hdone⟩
  · obtain rfl := key_of_drop hs
    refine ⟨by simp [hs], fun sl hsl _ => ?_, by simp [hg]⟩
    cases hg.symm.trans hsl
    exact .inr ⟨hi, hd, hdone⟩

end Sys2Proof.Machine

namespace Sys2Proof.Machine

/-! ## From a presented request to the operation it runs (R60) -/

/-- The schedule is no port: a turn that begins leaves every port as it was. -/
theorem State.beginTurn_port (s : State) (u : Turn) (rest : List Turn) (a : Agent) :
    (s.beginTurn u rest).env.port a = s.env.port a := by
  cases a <;> rfl

/-- A step whose agent presents a request runs that request, whatever it decodes to, after the turn has
begun and the request has left its port. -/
theorem step_of_presented {s : State} {u : Turn} {rest : List Turn} {r : Request} {rs : List Request}
    (hturn : s.env.turns = u :: rest) (hport : s.env.port u.agent = r :: rs) :
    step s = runRequest u.agent r
      ((s.beginTurn u rest).setEnv ((s.beginTurn u rest).env.setPort u.agent rs)) := by
  have presented : (s.beginTurn u rest).env.port u.agent = r :: rs :=
    (s.beginTurn_port u rest u.agent).trans hport
  simp only [step, takeTurn, hturn, presented]

/-- A request of an agent that may cause its operation is that operation (R88, R230): of the three things
`runRequest` can do, E_BADOP needs an unlisted select code and the refusal another agent. -/
theorem runRequest_of_mem_agents {a : Agent} {r : Request} {i : Instr} (hdecode : decode r = .ok i)
    (hagent : a ∈ i.agents) (s : State) : runRequest a r s = exec i s := by
  rcases runRequest_cases a r s with ⟨hbad, _⟩ | ⟨j, hj, hnot, _⟩ | ⟨j, hj, _, hrun⟩
  · cases hdecode.symm.trans hbad
  · cases hdecode.symm.trans hj
    exact absurd hagent (by simpa using hnot)
  · cases hdecode.symm.trans hj
    exact hrun

/-- Settles O56: the turn takes the request, and the request is the operation. -/
theorem stepRunsPresentedOperation : Obligations.StepRunsPresentedOperation := by
  intro s u rest r rs i hturn hport hdecode _ hagent
  calc step s
      = runRequest u.agent r
          ((s.beginTurn u rest).setEnv ((s.beginTurn u rest).env.setPort u.agent rs)) :=
        step_of_presented hturn hport
    _ = exec i ((s.beginTurn u rest).setEnv ((s.beginTurn u rest).env.setPort u.agent rs)) :=
        runRequest_of_mem_agents hdecode hagent _

end Sys2Proof.Machine

namespace Sys2Proof

/-! ## The select table of R88, row by row -/

/-- A mask of eight bits keeps the whole OPSEL. -/
theorem Request.opsel_and_mask (r : Request) : r.opsel.toNat &&& 0xFF = r.opsel.toNat :=
  Nat.and_two_pow_sub_one_of_lt_two_pow (n := 8) r.opsel.isLt

/-- A row of format `OP` is selected by its OPSEL alone. -/
theorem OpRow.selects_iff_of_op {row : OpRow} (hrow : row ∈ opcodeTable) {r : Request}
    (hf : r.format = .op) :
    row.selects r = true ↔ row.format = .op ∧ r.opsel.toNat = row.matchBits := by
  have mask_of_op : ∀ row ∈ opcodeTable, row.format = .op → row.mask = 0xFF := by decide
  simp only [OpRow.selects, Request.selectWord, hf, Bool.and_eq_true, beq_iff_eq]
  refine and_congr_right fun hop => ?_
  rw [mask_of_op row hrow hop, r.opsel_and_mask]

/-- A composite is taken by the arms of FRM.DEC only, and its high byte is their OPSEL. -/
theorem OpRow.opsel_of_selects_composite {row : OpRow} (hrow : row ∈ opcodeTable) {r : Request}
    (hf : r.format = .opRpy) (hs : row.selects r = true) : r.opsel = 0x11#8 := by
  have high_of_composite : ∀ row ∈ opcodeTable, row.format = .opRpy →
      row.mask >>> 8 = 0xFF ∧ row.matchBits >>> 8 = 0x11 := by decide
  simp only [OpRow.selects, Bool.and_eq_true, beq_iff_eq] at hs
  obtain ⟨hformat, hword⟩ := hs
  obtain ⟨hmask, hmatch⟩ := high_of_composite row hrow (hformat.trans hf)
  have high_byte : r.selectWord >>> 8 = r.opsel.toNat := by
    simp only [Request.selectWord, hf, Nat.shiftRight_eq_div_pow]
    omega
  apply BitVec.eq_of_toNat_eq
  calc r.opsel.toNat
      = r.opsel.toNat &&& 0xFF := r.opsel_and_mask.symm
    _ = (r.selectWord &&& row.mask) >>> 8 := by rw [Nat.shiftRight_and_distrib, high_byte, hmask]
    _ = 0x11 := by rw [hword, hmatch]

/-- No two rows of the table share both format and code. -/
theorem OpRow.eq_of_matchBits_eq {row row' : OpRow} (hrow : row ∈ opcodeTable)
    (hrow' : row' ∈ opcodeTable) (hf : row.format = row'.format)
    (hm : row.matchBits = row'.matchBits) : row = row' := by
  have distinct : (opcodeTable.map fun row => (row.format, row.matchBits)).Nodup := by decide
  exact List.inj_on_of_nodup_map distinct hrow hrow' (Prod.ext hf hm)

/-! ## What the decoder answers -/

/-- The decoder answers E_BADOP exactly where no row takes the request (R86 (f)). -/
theorem decode_eq_badOp_iff {r : Request} :
    decode r = .error .badOp ↔ ∀ row ∈ opcodeTable, ¬ row.selects r = true := by
  rw [← List.find?_eq_none, decode]
  split <;> simp [*]

/-- Format `OP`: whatever row takes the request is the one that the decoder finds. -/
theorem decode_of_selects {row : OpRow} (hrow : row ∈ opcodeTable) {r : Request}
    (hf : r.format = .op) (hs : row.selects r = true) : decode r = .ok (row.make r) := by
  obtain ⟨found, hfind⟩ : ∃ found, opcodeTable.find? (fun row => row.selects r) = some found :=
    Option.isSome_iff_exists.mp (List.find?_isSome.mpr ⟨row, hrow, hs⟩)
  have hfound : found ∈ opcodeTable := List.mem_of_find?_eq_some hfind
  have found_selects : found.selects r = true :=
    List.find?_some (p := fun row : OpRow => row.selects r) hfind
  obtain ⟨hop, hcode⟩ := (OpRow.selects_iff_of_op hrow hf).mp hs
  obtain ⟨hop', hcode'⟩ := (OpRow.selects_iff_of_op hfound hf).mp found_selects
  obtain rfl : found = row :=
    OpRow.eq_of_matchBits_eq hfound hrow (hop'.trans hop.symm) (hcode'.symm.trans hcode)
  simp only [decode, hfind]

/-! ### The arms of FRM.DEC -/

/-- The arm of FRM.DEC that frame[2] selects (R88): RAW for any other value, or none. -/
def selectedArm (frame : ByteString) : Instr :=
  if frame[discOffset]? = some discSettings then .frmDecSet frame
  else if frame[discOffset]? = some discLimits then .frmDecLim frame
  else .frmDecRaw frame

/-- Only the rows of the request's own format are searched. -/
theorem find?_selects_eq (r : Request) :
    opcodeTable.find? (fun row => row.selects r) =
      (opcodeTable.filter (fun row => row.format == r.format)).find? (fun row => row.selects r) := by
  rw [List.find?_filter]
  congr 1
  funext row
  rw [Bool.eq_iff_iff]
  simp [OpRow.selects]

/-- FRM.DEC's composite names the arm that frame[2] selects; an absent frame[2] stands as 0x00, which is
neither discriminator. -/
theorem decode_composite {r : Request} (hf : r.format = .opRpy) (ho : r.opsel = 0x11#8) :
    decode r = .ok (selectedArm r.bytes) := by
  have arms : opcodeTable.filter (fun row => row.format == .opRpy) =
    [⟨"FRM.DEC.SET", .opRpy, 0x113C, 0xFFFF, fun r => .frmDecSet r.bytes⟩,
     ⟨"FRM.DEC.LIM", .opRpy, 0x111C, 0xFFFF, fun r => .frmDecLim r.bytes⟩,
     ⟨"FRM.DEC.RAW", .opRpy, 0x1100, 0xFF00, fun r => .frmDecRaw r.bytes⟩] := rfl
  have set_word : ∀ d : Byte, ((17 * 256 + d.toNat) &&& 0xFFFF == 0x113C) = (d == discSettings) := by
    decide
  have lim_word : ∀ d : Byte, ((17 * 256 + d.toNat) &&& 0xFFFF == 0x111C) = (d == discLimits) := by
    decide
  have raw_word : ∀ d : Byte, ((17 * 256 + d.toNat) &&& 0xFF00 == 0x1100) = true := by decide
  have opsel : r.opsel.toNat = 17 := by rw [ho]; rfl
  rw [decode, find?_selects_eq, hf, arms]
  simp only [List.find?_cons, OpRow.selects, Request.selectWord, hf, opsel, set_word, lim_word,
    raw_word, beq_self_eq_true, Bool.true_and, selectedArm]
  cases r.bytes[discOffset]? with
  | none => rfl
  | some d =>
    by_cases hs : d = discSettings
    · subst hs; rfl
    · by_cases hl : d = discLimits
      · subst hl; rfl
      · simp [beq_false_of_ne hs, beq_false_of_ne hl, hs, hl]

/-! An arm is well formed on the frames that select it (R88). -/

theorem wellFormed_frmDecSet_iff {frame : ByteString} :
    (Instr.frmDecSet frame).wellFormed = true ↔ frame[discOffset]? = some discSettings :=
  beq_iff_eq

theorem wellFormed_frmDecLim_iff {frame : ByteString} :
    (Instr.frmDecLim frame).wellFormed = true ↔ frame[discOffset]? = some discLimits :=
  beq_iff_eq

theorem wellFormed_frmDecRaw_iff {frame : ByteString} :
    (Instr.frmDecRaw frame).wellFormed = true ↔
      frame[discOffset]? ≠ some discSettings ∧ frame[discOffset]? ≠ some discLimits := by
  simp [Instr.wellFormed]

theorem selectedArm_of_frmDecSet {frame : ByteString}
    (h : (Instr.frmDecSet frame).wellFormed = true) : selectedArm frame = .frmDecSet frame :=
  if_pos (wellFormed_frmDecSet_iff.mp h)

theorem selectedArm_of_frmDecLim {frame : ByteString}
    (h : (Instr.frmDecLim frame).wellFormed = true) : selectedArm frame = .frmDecLim frame := by
  rw [selectedArm, wellFormed_frmDecLim_iff.mp h]
  rfl

theorem selectedArm_of_frmDecRaw {frame : ByteString}
    (h : (Instr.frmDecRaw frame).wellFormed = true) : selectedArm frame = .frmDecRaw frame := by
  obtain ⟨hset, hlim⟩ := wellFormed_frmDecRaw_iff.mp h
  rw [selectedArm, if_neg hset, if_neg hlim]

/-! ### The round trip -/

/-- The row that an operation of format `OP` has in the table is the one its request selects. -/
theorem decode_encode_of_op {i : Instr} (hrow : Laws.EncodedSelect.Statement i)
    (hf : (encode i).format = .op) (hwf : i.wellFormed = true) : decode (encode i) = .ok i := by
  obtain ⟨row, hmem, hmake, hselects⟩ := hrow
  rw [decode_of_selects hmem hf (hselects hwf), hmake]

/-- An arm of FRM.DEC comes back from its composite when the frame selects it. -/
theorem decode_encode_of_arm {i : Instr} (hf : (encode i).format = .opRpy)
    (ho : (encode i).opsel = 0x11#8) (harm : selectedArm (encode i).bytes = i) :
    decode (encode i) = .ok i := by
  rw [decode_composite hf ho, harm]

/-- Settles O57: an arm by the byte that selects it, every other operation by its row in the table. -/
theorem decodeInvertsEncode : Obligations.DecodeInvertsEncode := by
  intro i hwf
  open Laws.EncodedSelect in
  cases i with
  | frmDecSet frame => exact decode_encode_of_arm rfl rfl (selectedArm_of_frmDecSet hwf)
  | frmDecLim frame => exact decode_encode_of_arm rfl rfl (selectedArm_of_frmDecLim hwf)
  | frmDecRaw frame => exact decode_encode_of_arm rfl rfl (selectedArm_of_frmDecRaw hwf)
  | crcGen src => exact decode_encode_of_op (crcGen src) rfl hwf
  | crcVfy frame => exact decode_encode_of_op (crcVfy frame) rfl hwf
  | fldU16 buf off => exact decode_encode_of_op (fldU16 buf off) rfl hwf
  | fldAcc32 buf off => exact decode_encode_of_op (fldAcc32 buf off) rfl hwf
  | frmEnc code payload => exact decode_encode_of_op (frmEnc code payload) rfl hwf
  | frmDec frame => exact decode_encode_of_op (frmDec frame) rfl hwf
  | sesConnect address => exact decode_encode_of_op (sesConnect address) rfl hwf
  | sesSubscribe => exact decode_encode_of_op sesSubscribe rfl hwf
  | corWrite code bytes => exact decode_encode_of_op (corWrite code bytes) rfl hwf
  | qryStart code frame => exact decode_encode_of_op (qryStart code frame) rfl hwf
  | corRx bytes => exact decode_encode_of_op (corRx bytes) rfl hwf
  | corExpire key => exact decode_encode_of_op (corExpire key) rfl hwf
  | qryRetry => exact decode_encode_of_op qryRetry rfl hwf
  | cmdStatus => exact decode_encode_of_op cmdStatus rfl hwf
  | cmdLimits => exact decode_encode_of_op cmdLimits rfl hwf
  | cmdSetv v => exact decode_encode_of_op (cmdSetv v) rfl hwf
  | cmdSeti v => exact decode_encode_of_op (cmdSeti v) rfl hwf
  | cmdSetbl v => exact decode_encode_of_op (cmdSetbl v) rfl hwf
  | cmdSetbz v => exact decode_encode_of_op (cmdSetbz v) rfl hwf
  | cmdSetto v => exact decode_encode_of_op (cmdSetto v) rfl hwf
  | cmdOn => exact decode_encode_of_op cmdOn rfl hwf
  | cmdOff => exact decode_encode_of_op cmdOff rfl hwf
  | cmdRestart => exact decode_encode_of_op cmdRestart rfl hwf

/-! ### The select codes written out -/

/-- A select code of format `OP` with a row in the table names the operation of that row (R88), the row
given by its place. -/
theorem decode_of_row (n : Nat) {row : OpRow} (hrow : opcodeTable[n]? = some row)
    (hop : row.format = .op) {r : Request} (hf : r.format = .op)
    (hcode : r.opsel.toNat = row.matchBits) : decode r = .ok (row.make r) :=
  have hmem : row ∈ opcodeTable := List.mem_of_getElem? hrow
  decode_of_selects hmem hf ((OpRow.selects_iff_of_op hmem hf).mpr ⟨hop, hcode⟩)

/-- Settles O58: each code of format `OP` by its row, the composite by the arms. -/
theorem selectWordsNameTheirOperations : Obligations.SelectWordsNameTheirOperations := by
  intro b k n v
  exact ⟨decode_of_row 0 rfl rfl rfl rfl, decode_of_row 1 rfl rfl rfl rfl,
    decode_of_row 2 rfl rfl rfl rfl, decode_of_row 3 rfl rfl rfl rfl,
    decode_of_row 4 rfl rfl rfl rfl, decode_of_row 5 rfl rfl rfl rfl,
    decode_composite rfl rfl,
    decode_of_row 9 rfl rfl rfl rfl, decode_of_row 10 rfl rfl rfl rfl,
    decode_of_row 11 rfl rfl rfl rfl, decode_of_row 12 rfl rfl rfl rfl,
    decode_of_row 13 rfl rfl rfl rfl, decode_of_row 14 rfl rfl rfl rfl,
    decode_of_row 15 rfl rfl rfl rfl, decode_of_row 16 rfl rfl rfl rfl,
    decode_of_row 17 rfl rfl rfl rfl, decode_of_row 18 rfl rfl rfl rfl,
    decode_of_row 19 rfl rfl rfl rfl, decode_of_row 20 rfl rfl rfl rfl,
    decode_of_row 21 rfl rfl rfl rfl, decode_of_row 22 rfl rfl rfl rfl,
    decode_of_row 23 rfl rfl rfl rfl, decode_of_row 24 rfl rfl rfl rfl,
    decode_of_row 25 rfl rfl rfl rfl⟩

/-! ### Codes that R88 does not list -/

/-- A code of format `OP` outside the table's column of codes has no row. -/
theorem decode_unlisted_op {r : Request} (hf : r.format = .op)
    (hcode : r.opsel.toNat ∉ (opcodeTable.filter (·.format == .op)).map (·.matchBits)) :
    decode r = .error .badOp := by
  rw [decode_eq_badOp_iff]
  intro row hrow hs
  obtain ⟨hop, hmatch⟩ := (OpRow.selects_iff_of_op hrow hf).mp hs
  exact hcode (List.mem_map.mpr ⟨row, List.mem_filter.mpr ⟨hrow, by simp [hop]⟩, hmatch.symm⟩)

/-- R88 gives composites to the arms of FRM.DEC only. -/
theorem decode_unlisted_composite {r : Request} (hf : r.format = .opRpy) (ho : r.opsel ≠ 0x11#8) :
    decode r = .error .badOp :=
  decode_eq_badOp_iff.mpr fun _ hrow hs => ho (OpRow.opsel_of_selects_composite hrow hf hs)

end Sys2Proof

namespace Sys2Proof.Machine

/-- A request that names no operation is answered with E_BADOP, whoever presents it (R86 (f)). -/
theorem runRequest_of_badOp {r : Request} (hdecode : decode r = .error .badOp) (a : Agent) (s : State) :
    runRequest a r s = .next (s.raise .badOp) := by
  rw [runRequest, hdecode]

/-- Settles O59: the code has no row, and the turn that takes it raises E_BADOP. -/
theorem unlistedSelectCodeChangesNothing : Obligations.UnlistedSelectCodeChangesNothing := by
  intro s u rest r rs hturn hport hunlisted
  have hdecode : decode r = .error .badOp := by
    rcases hunlisted with ⟨hf, ho⟩ | ⟨hf, hcode⟩
    · exact decode_unlisted_composite hf ho
    · exact decode_unlisted_op hf hcode
  calc step s
      = runRequest u.agent r
          ((s.beginTurn u rest).setEnv ((s.beginTurn u rest).env.setPort u.agent rs)) :=
        step_of_presented hturn hport
    _ = .next (((s.beginTurn u rest).setEnv
          ((s.beginTurn u rest).env.setPort u.agent rs)).raise .badOp) :=
        runRequest_of_badOp hdecode _ _

/-! ## The arms of FRM.DEC and FRM.DEC itself (R127) -/

/-- A body of a report's shape starts as its frame does, so the frame carries the shape's
discriminator. -/
theorem disc_of_shapeApplies {d : Byte} {S : Schema} {frame : ByteString}
    (h : shapeApplies d S (body frame) = true) : frame[discOffset]? = some d := by
  simp only [shapeApplies, disc, body, List.getElem?_take, Bool.and_eq_true, beq_iff_eq] at h
  obtain ⟨hdisc, _⟩ := h
  split at hdisc
  · exact hdisc
  · cases hdisc

theorem shapeApplies_eq_false {d : Byte} {S : Schema} {frame : ByteString}
    (h : frame[discOffset]? ≠ some d) : shapeApplies d S (body frame) = false :=
  Bool.eq_false_iff.mpr fun happlies => h (disc_of_shapeApplies happlies)

/-! Where an arm's frame selects it, the shapes that FRM.DEC tries and the arm does not are those of
another discriminator. -/

theorem frmDecSet_eq_frmDec (settings limits : Schema) {frame : ByteString}
    (h : frame[discOffset]? = some discSettings) :
    frmDecSet settings frame = frmDec settings limits frame := by
  have not_limits : shapeApplies discLimits limits (body frame) = false :=
    shapeApplies_eq_false (by rw [h]; decide)
  simp [frmDecSet, frmDec, not_limits]

theorem frmDecLim_eq_frmDec (settings limits : Schema) {frame : ByteString}
    (h : frame[discOffset]? = some discLimits) :
    frmDecLim limits frame = frmDec settings limits frame := by
  have not_settings : shapeApplies discSettings settings (body frame) = false :=
    shapeApplies_eq_false (by rw [h]; decide)
  simp [frmDecLim, frmDec, not_settings]

theorem frmDecRaw_eq_frmDec (settings limits : Schema) {frame : ByteString}
    (hset : frame[discOffset]? ≠ some discSettings) (hlim : frame[discOffset]? ≠ some discLimits) :
    frmDecRaw frame = frmDec settings limits frame := by
  simp [frmDecRaw, frmDec, shapeApplies_eq_false hset, shapeApplies_eq_false hlim]

/-- Settles O15: an arm is well formed where its frame selects it, and there it decodes as FRM.DEC
does. -/
theorem frmDecArmsAgreeWithFrmDec : Obligations.FrmDecArmsAgreeWithFrmDec := by
  intro frame s
  refine ⟨fun hwf => ?_, fun hwf => ?_, fun hwf => ?_⟩
  · have hset := wellFormed_frmDecSet_iff.mp hwf
    simp only [exec, execFrmDecSet, execFrmDec,
      frmDecSet_eq_frmDec Config.params.settings Config.params.limits hset]
  · have hlim := wellFormed_frmDecLim_iff.mp hwf
    simp only [exec, execFrmDecLim, execFrmDec,
      frmDecLim_eq_frmDec Config.params.settings Config.params.limits hlim]
  · obtain ⟨hset, hlim⟩ := wellFormed_frmDecRaw_iff.mp hwf
    simp only [exec, execFrmDecRaw, execFrmDec,
      frmDecRaw_eq_frmDec Config.params.settings Config.params.limits hset hlim]

end Sys2Proof.Machine

namespace Sys2Proof.Machine

/-! ## The register of the CRC Engine (R102, R103) -/

/-- Doubling and the conditional XOR as one expression. -/
theorem crcShift_eq (r : Word16) : crcShift r = (r <<< 1) ^^^ (if r.msb then crcPoly else 0#16) := by
  unfold crcShift
  split
  · rfl
  · rw [BitVec.xor_zero]

theorem shiftLeft_one_eq_ofNat (r : Word16) : r <<< 1 = BitVec.ofNat 16 (2 * r.toNat % 65536) := by
  apply BitVec.eq_of_toNat_eq
  rw [BitVec.toNat_shiftLeft, BitVec.toNat_ofNat, Nat.shiftLeft_eq]
  omega

/-- A byte moved into bits 15:8 is its value times 256. -/
theorem byte_shiftLeft_eq_ofNat (b : Byte) : b.setWidth 16 <<< 8 = BitVec.ofNat 16 (b.toNat * 256) := by
  apply BitVec.eq_of_toNat_eq
  rw [BitVec.toNat_shiftLeft, BitVec.toNat_setWidth_of_le (by decide), BitVec.toNat_ofNat,
    Nat.shiftLeft_eq]

theorem crcReg_concat (s : ByteString) (b : Byte) : crcReg (s ++ [b]) = crcByte (crcReg s) b :=
  List.foldl_concat ..

/-- Settles O2: the step and the load of R102 as arithmetic, its worked example by evaluation. -/
theorem crcRegisterFollowsDivision : Obligations.CrcRegisterFollowsDivision := by
  unfold Obligations.CrcRegisterFollowsDivision
  intro shift load
  have hshift : shift = crcShift := by
    funext r
    rw [crcShift_eq, shiftLeft_one_eq_ofNat, BitVec.msb_eq_getLsbD_last]
    rfl
  have hload (r : Word16) (b : Byte) : load r b = r ^^^ ((rev8 b).setWidth 16 <<< 8) := by
    rw [byte_shiftLeft_eq_ofNat]
  refine ⟨rfl, fun s b => ?_, rfl, rfl, rfl⟩
  rw [crcReg_concat, crcByte, hshift, hload]
  rfl

/-! ## The trailer (R104, R105) -/

theorem be16_eq_ofNat (w : Word16) :
    be16 w = [BitVec.ofNat 8 (w.toNat / 256), BitVec.ofNat 8 w.toNat] := by
  simp [be16, BitVec.extractLsb', Nat.shiftRight_eq_div_pow]

/-- Settles O3: the answer is finalisation's two bytes, the examples by evaluation. -/
theorem crcGenReturnsTrailer : Obligations.CrcGenReturnsTrailer := by
  refine ⟨fun src s => ?_, by decide +kernel⟩
  intro w
  rw [← be16_eq_ofNat]
  rfl

theorem crcGen_length (b : ByteString) : (crcGen b).length = 2 := rfl

/-! ## Verification (R106, R108) -/

theorem crcVfy_of_length_lt {frame : ByteString} (h : frame.length < 2) : crcVfy frame = false :=
  if_pos h

theorem body_append {b t : ByteString} (h : t.length = 2) : body (b ++ t) = b := by
  rw [body, List.length_append, h, trailerLen, Nat.add_sub_cancel, List.take_left]

theorem trailer_append {b t : ByteString} (h : t.length = 2) : trailer (b ++ t) = t := by
  rw [trailer, List.length_append, h, trailerLen, Nat.add_sub_cancel, List.drop_left]

theorem body_append_trailer (frame : ByteString) : body frame ++ trailer frame = frame :=
  List.take_append_drop ..

/-- A frame verifies exactly when it is a body followed by that body's own trailer. -/
theorem crcVfy_iff {frame : ByteString} : crcVfy frame = true ↔ ∃ b, frame = b ++ crcGen b := by
  constructor
  · intro h
    rw [crcVfy] at h
    split at h
    · cases h
    · exact ⟨body frame, by rw [beq_iff_eq.mp h, body_append_trailer]⟩
  · rintro ⟨b, rfl⟩
    have long : ¬ (b ++ crcGen b).length < trailerLen := by
      rw [List.length_append, crcGen_length, trailerLen]
      omega
    rw [crcVfy, if_neg long, body_append (crcGen_length b), trailer_append (crcGen_length b),
      beq_self_eq_true]

/-- Settles O4: the comparison by `crcVfy_iff`, the examples by evaluation. -/
theorem crcVfyComparesTrailer : Obligations.CrcVfyComparesTrailer := by
  refine ⟨fun frame s => ⟨crcVfy frame, rfl, crcVfy_iff.trans ?_, crcVfy_of_length_lt⟩,
    by decide +kernel⟩
  constructor
  · rintro ⟨b, hframe⟩
    exact ⟨b, _, _, hframe, rfl⟩
  · rintro ⟨b, t0, t1, hframe, hgen⟩
    exact ⟨b, by rw [hframe, hgen]⟩

/-! ## The least-significant-bit-first form (R109): its register is the reflection of CRCREG -/

theorem rev16_xor (x y : Word16) : rev16 (x ^^^ y) = rev16 x ^^^ rev16 y := by
  apply BitVec.eq_of_getLsbD_eq
  intro i hi
  rw [BitVec.getLsbD_xor, rev16_getLsbD _ hi, rev16_getLsbD _ hi, rev16_getLsbD _ hi,
    BitVec.getLsbD_xor]

theorem rev16_shiftLeft_one (r : Word16) : rev16 (r <<< 1) = rev16 r >>> 1 := by
  apply BitVec.eq_of_getLsbD_eq
  intro i hi
  rw [rev16_getLsbD _ hi, BitVec.getLsbD_shiftLeft, BitVec.getLsbD_ushiftRight]
  by_cases hlast : i = 15
  · subst hlast
    simp
  · rw [rev16_getLsbD _ (by omega)]
    have hsub : 15 - i - 1 = 15 - (1 + i) := by omega
    have hpos : ¬ 15 - i < 1 := by omega
    have hlt : 15 - i < 16 := by omega
    simp [hsub, hpos, hlt]

/-- The reversed byte in bits 15:8 reflects to the byte itself in bits 7:0. -/
theorem rev16_shiftLeft_rev8 (b : Byte) : rev16 ((rev8 b).setWidth 16 <<< 8) = b.setWidth 16 := by
  apply BitVec.eq_of_getLsbD_eq
  intro i hi
  rw [rev16_getLsbD _ hi, BitVec.getLsbD_shiftLeft, BitVec.getLsbD_setWidth, BitVec.getLsbD_setWidth]
  by_cases hlow : i < 8
  · rw [rev8_getLsbD _ (by omega)]
    have hpos : ¬ 15 - i < 8 := by omega
    have hlt : 15 - i < 16 := by omega
    have hlt' : 15 - i - 8 < 16 := by omega
    have hsub : 7 - (15 - i - 8) = i := by omega
    simp [hpos, hlt, hlt', hi, hsub]
  · have hneg : 15 - i < 8 := by omega
    rw [BitVec.getLsbD_of_ge b i (by omega)]
    simp [hneg]

theorem rev16_getLsbD_zero (r : Word16) : (rev16 r).getLsbD 0 = r.msb := by
  rw [rev16_getLsbD r (by decide), BitVec.msb_eq_getLsbD_last]

theorem crcShiftLsb_rev16 (r : Word16) : crcShiftLsb (rev16 r) = rev16 (crcShift r) := by
  rw [crcShiftLsb, crcShift, rev16_getLsbD_zero]
  split
  · rw [rev16_xor, rev16_shiftLeft_one]
    rfl
  · rw [rev16_shiftLeft_one]

theorem crcByteLsb_rev16 (r : Word16) (b : Byte) :
    crcByteLsb (rev16 r) b = rev16 (crcByte r b) := by
  have shifts : Function.Semiconj rev16 crcShift crcShiftLsb := fun r => (crcShiftLsb_rev16 r).symm
  rw [crcByteLsb, crcByte, (shifts.iterate_right 8).eq, rev16_xor, rev16_shiftLeft_rev8]

/-- The register of R109 after a string. -/
def crcRegLsb (s : ByteString) : Word16 := s.foldl crcByteLsb 0xFFFF#16

theorem crcRegLsb_eq_rev16 (s : ByteString) : crcRegLsb s = rev16 (crcReg s) :=
  List.foldl_hom rev16 (init := crcInit) crcByteLsb_rev16

theorem crcRegLsb_append (s t : ByteString) :
    crcRegLsb (s ++ t) = t.foldl crcByteLsb (crcRegLsb s) :=
  List.foldl_append

theorem be16_swap16 (q : Word16) : be16 (swap16 q) = (be16 q).reverse := by
  have hhigh : q.toNat / 256 < 256 := by omega
  apply List.map_injective_iff.mpr BitVec.toNat_injective
  rw [List.map_reverse, be16_map_toNat, be16_map_toNat, swap16_toNat, Nat.mul_add_mod_of_lt hhigh,
    Nat.mul_comm, Nat.mul_add_div (by decide), Nat.div_eq_of_lt hhigh]
  rfl

/-- Finalisation puts the low byte of the reflected register first (R104). -/
theorem crcGen_eq (s : ByteString) :
    crcGen s = [(crcRegLsb s).extractLsb' 0 8, (crcRegLsb s).extractLsb' 8 8] := by
  rw [crcGen, crcFinal, be16_swap16, crcRegLsb_eq_rev16]
  rfl

/-- Settles O7: both forms emit the two bytes of the reflected register, low byte first. -/
theorem lsbFirstFormEqualsMsbFirst : Obligations.LsbFirstFormEqualsMsbFirst :=
  fun src => (crcGen_eq src).symm

/-! ## The residue (R110 (a) and (c)) -/

/-- While the bits that leave are zero, the division only shifts. -/
theorem crcShiftLsb_iterate_of_dvd {n : Nat} {q : Word16} (h : 2 ^ n ∣ q.toNat) :
    crcShiftLsb^[n] q = q >>> n := by
  induction n with
  | zero => rw [Function.iterate_zero_apply, BitVec.ushiftRight_zero]
  | succ n ih =>
    have even : (q >>> n).getLsbD 0 = false := by
      rw [BitVec.getLsbD_ushiftRight, BitVec.getLsbD, Nat.testBit_eq_decide_div_mod_eq]
      obtain ⟨m, hm⟩ := h
      rw [hm, Nat.pow_succ, Nat.mul_assoc, Nat.add_zero,
        Nat.mul_div_cancel_left _ (Nat.two_pow_pos n)]
      simp
    rw [Function.iterate_succ_apply', ih ((Nat.pow_dvd_pow 2 n.le_succ).trans h), crcShiftLsb,
      if_neg (by rw [even]; decide), BitVec.shiftRight_add]

/-- Loading the register's own low byte clears it, so the eight shifts move the high byte down. -/
theorem crcByteLsb_own_lowByte (q : Word16) : crcByteLsb q (q.extractLsb' 0 8) = q >>> 8 := by
  have cleared : q ^^^ (q.extractLsb' 0 8).setWidth 16 = (q >>> 8) <<< 8 := by
    apply BitVec.eq_of_getLsbD_eq
    intro i hi
    by_cases hlow : i < 8
    · simp [hlow, hi]
    · have hback : 8 + (i - 8) = i := by omega
      rw [BitVec.getLsbD_xor, BitVec.getLsbD_setWidth,
        BitVec.getLsbD_of_ge (q.extractLsb' 0 8) i (by omega)]
      simp [hlow, hi, hback]
  have divisible : 2 ^ 8 ∣ ((q >>> 8) <<< 8).toNat := by
    rw [BitVec.toNat_shiftLeft, highByte_toNat, Nat.shiftLeft_eq, Nat.mod_eq_of_lt (by omega)]
    exact Nat.dvd_mul_left ..
  have restored : (q >>> 8) <<< 8 >>> 8 = q >>> 8 := by
    apply BitVec.eq_of_toNat_eq
    rw [highByte_toNat, BitVec.toNat_shiftLeft, highByte_toNat, Nat.shiftLeft_eq]
    omega
  rw [crcByteLsb, cleared, crcShiftLsb_iterate_of_dvd divisible, restored]

/-- Loading the high byte then clears the register. -/
theorem crcByteLsb_own_highByte (q : Word16) : crcByteLsb (q >>> 8) (q.extractLsb' 8 8) = 0#16 := by
  have same : (q.extractLsb' 8 8).setWidth 16 = q >>> 8 := by
    apply BitVec.eq_of_toNat_eq
    rw [BitVec.toNat_setWidth_of_le (by decide), BitVec.extractLsb'_toNat, highByte_toNat,
      Nat.shiftRight_eq_div_pow]
    omega
  rw [crcByteLsb, same, BitVec.xor_self, crcShiftLsb_iterate_of_dvd (Nat.dvd_zero _),
    BitVec.zero_ushiftRight]

theorem crcRegLsb_append_crcGen (b : ByteString) : crcRegLsb (b ++ crcGen b) = 0#16 := by
  rw [crcRegLsb_append, crcGen_eq, List.foldl_cons, List.foldl_cons, List.foldl_nil,
    crcByteLsb_own_lowByte, crcByteLsb_own_highByte]

/-- Settles O5: verification by `crcVfy_iff`, the residue by the reflected register. -/
theorem generatedTrailerVerifiesWithZeroResidue :
    Obligations.GeneratedTrailerVerifiesWithZeroResidue := by
  intro b
  refine ⟨crcVfy_iff.mpr ⟨b, rfl⟩, ?_⟩
  have reflected : rev16 (crcReg (b ++ crcGen b)) = 0#16 := by
    rw [← crcRegLsb_eq_rev16, crcRegLsb_append_crcGen]
  exact BitVec.reverse_eq_zero_iff.mp reflected

/-! ## Single-bit errors (R110 (b)) -/

theorem crcShiftLsb_eq (q : Word16) :
    crcShiftLsb q = (q >>> 1) ^^^ (if q.getLsbD 0 then 0xA001#16 else 0#16) := by
  unfold crcShiftLsb
  split
  · rfl
  · rw [BitVec.xor_zero]

/-- The reflected generator has its top bit set (the constant term of R110), so the bit that was shifted
out can be read off the result. -/
theorem crcShiftLsb_getLsbD_last (q : Word16) : (crcShiftLsb q).getLsbD 15 = q.getLsbD 0 := by
  rw [crcShiftLsb_eq, BitVec.getLsbD_xor, BitVec.getLsbD_ushiftRight,
    BitVec.getLsbD_of_ge q _ (by decide)]
  cases q.getLsbD 0 <;> rfl

theorem crcShiftLsb_injective : Function.Injective crcShiftLsb := by
  intro x y h
  have hlast : x.getLsbD 0 = y.getLsbD 0 := by
    rw [← crcShiftLsb_getLsbD_last, ← crcShiftLsb_getLsbD_last, h]
  rw [crcShiftLsb_eq, crcShiftLsb_eq, hlast, BitVec.xor_left_inj] at h
  apply BitVec.eq_of_getLsbD_eq
  intro i _
  cases i with
  | zero => exact hlast
  | succ i =>
    have hbit := congrArg (BitVec.getLsbD · i) h
    simpa only [BitVec.getLsbD_ushiftRight, Nat.add_comm 1 i] using hbit

theorem crcByteLsb_injective_left (b : Byte) : Function.Injective (crcByteLsb · b) := by
  intro q q' h
  exact (BitVec.xor_left_inj _).mp (crcShiftLsb_injective.iterate 8 h)

theorem crcByteLsb_injective_right (q : Word16) : Function.Injective (crcByteLsb q) := by
  intro x y h
  have widened := (BitVec.xor_right_inj q).mp (crcShiftLsb_injective.iterate 8 h)
  have narrow (b : Byte) : (b.setWidth 16).setWidth 8 = b := by
    rw [BitVec.setWidth_setWidth_of_le b (by decide), BitVec.setWidth_eq]
  rw [← narrow x, widened, narrow y]

theorem foldl_crcByteLsb_injective (s : ByteString) :
    Function.Injective (fun q => s.foldl crcByteLsb q) := by
  induction s with
  | nil => exact fun _ _ h => h
  | cons b s ih => exact fun _ _ h => crcByteLsb_injective_left b (ih h)

/-- Strings that differ in one byte leave different registers: the bytes after it undo nothing. -/
theorem crcRegLsb_ne_of_byte_ne {x y : Byte} (hne : x ≠ y) (pre post : ByteString) :
    crcRegLsb (pre ++ x :: post) ≠ crcRegLsb (pre ++ y :: post) := by
  intro h
  rw [crcRegLsb_append, crcRegLsb_append, List.foldl_cons, List.foldl_cons] at h
  exact hne (crcByteLsb_injective_right _ (foldl_crcByteLsb_injective post h))

/-- An inverted bit changes one byte. -/
theorem flipBit_eq_append {f : ByteString} {i : Nat} (hi : i < 8 * f.length) :
    ∃ pre x y post, x ≠ y ∧ f = pre ++ x :: post ∧ flipBit f i = pre ++ y :: post := by
  obtain ⟨pre, x, post, hf, _, hmodify⟩ :=
    List.exists_of_modify (fun b : Byte => b ^^^ (1#8 <<< (i % 8))) (i := i / 8) (l := f) (by omega)
  refine ⟨pre, x, _, post, ?_, hf, hmodify⟩
  intro hsame
  have bit_zero : 1#8 <<< (i % 8) = 0#8 := by
    rw [← BitVec.xor_right_inj x, BitVec.xor_zero]
    exact hsame.symm
  have bit_ne_zero : ∀ k < 8, 1#8 <<< k ≠ 0#8 := by decide
  exact bit_ne_zero (i % 8) (Nat.mod_lt i (by decide)) bit_zero

/-- Settles O6: a frame that verifies has the residue zero, as the string with its own CRC has, and one
changed byte changes the register. -/
theorem singleBitErrorsAreDetected : Obligations.SingleBitErrorsAreDetected := by
  intro b i hi
  obtain ⟨pre, x, y, post, hne, hframe, hflip⟩ := flipBit_eq_append hi
  rw [Bool.eq_false_iff]
  intro hvfy
  obtain ⟨b', hb'⟩ := crcVfy_iff.mp hvfy
  have same_residue : crcRegLsb (pre ++ x :: post) = crcRegLsb (pre ++ y :: post) := by
    rw [← hframe, ← hflip, hb', crcRegLsb_append_crcGen, crcRegLsb_append_crcGen]
  exact crcRegLsb_ne_of_byte_ne hne pre post same_residue

end Sys2Proof.Machine

namespace Sys2Proof.Machine

/-! ## Bytes of a string and the values read from them (R13, R121, R122) -/

theorem byteAt_of_getElem? {s : ByteString} {i : Nat} {v : Byte} (h : s[i]? = some v) : byteAt s i = v := by
  rw [byteAt, List.getD_eq_getElem?_getD, h, Option.getD_some]

theorem byteAt_congr {s t : ByteString} {i : Nat} (h : s[i]? = t[i]?) : byteAt s i = byteAt t i := by
  rw [byteAt, byteAt, List.getD_eq_getElem?_getD, List.getD_eq_getElem?_getD, h]

theorem byteAt_set_same {s : ByteString} {i : Nat} (h : i < s.length) (v : Byte) :
    byteAt (s.set i v) i = v :=
  byteAt_of_getElem? (List.getElem?_set_self h)

theorem byteAt_set_other {s : ByteString} {i j : Nat} (h : i ≠ j) (v : Byte) :
    byteAt (s.set i v) j = byteAt s j :=
  byteAt_congr (List.getElem?_set_ne h)

/-- R122's remark that nothing is lost: the four contributions share no bit, so their `or` is a sum. -/
theorem acc32At_toNat (s : ByteString) (off : Nat) :
    (acc32At s off).toNat = (byteAt s (off + 4)).toNat * 2 ^ 24 + (byteAt s (off + 5)).toNat * 2 ^ 16 +
      (byteAt s off).toNat * 2 ^ 8 + (byteAt s (off + 1)).toNat := by
  have widened (b : Byte) : (b.setWidth 32).toNat = b.toNat :=
    BitVec.toNat_setWidth_of_le (by decide)
  have hb3 := (byteAt s (off + 4)).isLt
  have hb2 := (byteAt s (off + 5)).isLt
  have low : ((be16At s off).setWidth 32).toNat = (be16At s off).toNat :=
    BitVec.toNat_setWidth_of_le (by decide)
  have top : ((byteAt s (off + 4)).setWidth 32 <<< 24).toNat = (byteAt s (off + 4)).toNat <<< 24 := by
    rw [BitVec.toNat_shiftLeft, widened, Nat.shiftLeft_eq, Nat.mod_eq_of_lt (by omega)]
  have next : ((byteAt s (off + 5)).setWidth 32 <<< 16).toNat = (byteAt s (off + 5)).toNat * 2 ^ 16 := by
    rw [BitVec.toNat_shiftLeft, widened, Nat.shiftLeft_eq, Nat.mod_eq_of_lt (by omega)]
  have high : (byteAt s (off + 4)).toNat <<< 24 ||| (byteAt s (off + 5)).toNat * 2 ^ 16 =
      ((byteAt s (off + 4)).toNat * 2 ^ 8 + (byteAt s (off + 5)).toNat) <<< 16 := by
    rw [← Nat.shiftLeft_add_eq_or_of_lt (by omega), Nat.shiftLeft_eq, Nat.shiftLeft_eq]
    omega
  calc (acc32At s off).toNat
      = (be16At s off).toNat |||
          ((byteAt s (off + 4)).toNat <<< 24 ||| (byteAt s (off + 5)).toNat * 2 ^ 16) := by
        rw [acc32At, accHiB3Delta, accHiB2Delta, BitVec.toNat_or, BitVec.toNat_or, low, top, next,
          Nat.or_assoc]
    _ = ((byteAt s (off + 4)).toNat * 2 ^ 8 + (byteAt s (off + 5)).toNat) <<< 16 +
          (be16At s off).toNat := by
        rw [high, Nat.or_comm, Nat.shiftLeft_add_eq_or_of_lt (be16At s off).isLt]
    _ = _ := by
        rw [be16At_toNat, Nat.shiftLeft_eq]
        omega

theorem acc32At_toNat_of_lt (s : ByteString) (off : Nat) (h : off + 5 < s.length) :
    (acc32At s off).toNat = s[off + 4].toNat * 2 ^ 24 + s[off + 5].toNat * 2 ^ 16 +
      s[off].toNat * 2 ^ 8 + s[off + 1].toNat := by
  rw [acc32At_toNat, byteAt_eq_getElem s (i := off) (by omega), byteAt_eq_getElem s (i := off + 1) (by omega),
    byteAt_eq_getElem s (i := off + 4) (by omega), byteAt_eq_getElem s h]

/-- A 16-bit value is read back where its two bytes stand. -/
theorem be16At_eq_of_bytes {s : ByteString} {off : Nat} {w : Word16}
    (hhigh : byteAt s off = w.extractLsb' 8 8) (hlow : byteAt s (off + 1) = w.extractLsb' 0 8) :
    be16At s off = w := by
  apply BitVec.eq_of_toNat_eq
  rw [be16At_toNat, hhigh, hlow, BitVec.extractLsb'_toNat, BitVec.extractLsb'_toNat,
    Nat.shiftRight_eq_div_pow, Nat.shiftRight_eq_div_pow]
  omega

/-- A 32-bit value is read back where its four bytes stand in the accumulator's order. -/
theorem acc32At_eq_of_bytes {s : ByteString} {off : Nat} {w : Word32}
    (h1 : byteAt s off = w.extractLsb' 8 8) (h0 : byteAt s (off + 1) = w.extractLsb' 0 8)
    (h3 : byteAt s (off + 4) = w.extractLsb' 24 8) (h2 : byteAt s (off + 5) = w.extractLsb' 16 8) :
    acc32At s off = w := by
  apply BitVec.eq_of_toNat_eq
  rw [acc32At_toNat, h0, h1, h2, h3]
  simp only [BitVec.extractLsb'_toNat, Nat.shiftRight_eq_div_pow]
  omega

theorem exec_fldU16_of_le {buf : ByteString} {off : Nat} (h : off + 2 ≤ buf.length) (s : State) :
    exec (.fldU16 buf off) s = .next (s.respond (.raw16 (be16At buf off))) :=
  if_pos h

theorem exec_fldAcc32_of_le {buf : ByteString} {off : Nat} (h : off + 6 ≤ buf.length) (s : State) :
    exec (.fldAcc32 buf off) s = .next (s.respond (.raw32 (acc32At buf off))) :=
  if_pos h

/-- Settles O8: the value by `be16At_toNat_of_lt`, the example by evaluation. -/
theorem fldU16ReadsBigEndian : Obligations.FldU16ReadsBigEndian :=
  ⟨fun buf off s h => ⟨_, exec_fldU16_of_le h s, be16At_toNat_of_lt buf off h⟩,
    fun _ _ _ h => if_neg (Nat.not_le.mpr h), by decide⟩

/-- Settles O9: the value by `acc32At_toNat_of_lt`, the example by evaluation. -/
theorem fldAcc32KeepsReorderedHalves : Obligations.FldAcc32KeepsReorderedHalves :=
  ⟨fun buf off s h => ⟨_, exec_fldAcc32_of_le h s, acc32At_toNat_of_lt buf off h⟩,
    fun _ _ _ h => if_neg (Nat.not_le.mpr h), by decide⟩

/-! ## What a schema row reads (R78, R81) -/

theorem rowReads_of_u16 {row : SchemaRow} (h : row.kind = .u16) :
    rowReads row = [row.off, row.off + 1] := by
  rw [rowReads, h]

theorem rowReads_of_acc32 {row : SchemaRow} (h : row.kind = .acc32) :
    rowReads row = [row.off, row.off + 1, row.off + 4, row.off + 5] := by
  rw [rowReads, h]
  rfl

theorem readField_of_u16 {row : SchemaRow} (h : row.kind = .u16) (b : ByteString) :
    readField b row = ⟨.u16 (be16At b row.off), row.scale⟩ := by
  rw [readField, h]

theorem readField_of_acc32 {row : SchemaRow} (h : row.kind = .acc32) (b : ByteString) :
    readField b row = ⟨.acc32 (acc32At b row.off), row.scale⟩ := by
  rw [readField, h]

theorem footprint_of_u16 {row : SchemaRow} (h : row.kind = .u16) : row.footprint = row.off + 2 := by
  rw [SchemaRow.footprint, h]

theorem footprint_of_acc32 {row : SchemaRow} (h : row.kind = .acc32) :
    row.footprint = row.off + 6 := by
  rw [SchemaRow.footprint, h]

/-- A row reads only between its offset and its footprint. -/
theorem bounds_of_mem_rowReads {row : SchemaRow} {i : Nat} (h : i ∈ rowReads row) :
    row.off ≤ i ∧ i < row.footprint := by
  cases hk : row.kind with
  | u16 =>
    simp only [rowReads_of_u16 hk, List.mem_cons, List.not_mem_nil, or_false] at h
    rw [footprint_of_u16 hk]
    omega
  | acc32 =>
    simp only [rowReads_of_acc32 hk, List.mem_cons, List.not_mem_nil, or_false] at h
    rw [footprint_of_acc32 hk]
    omega

theorem footprint_le_reqLen {S : Schema} {row : SchemaRow} (h : row ∈ S) :
    row.footprint ≤ S.reqLen := by
  induction S with
  | nil => cases h
  | cons r S ih =>
    rw [Schema.reqLen, List.foldr_cons]
    rcases List.mem_cons.mp h with rfl | htail
    · exact le_max_left ..
    · exact le_max_of_le_right (ih htail)

/-! ## Reports (R123, R125, R134) -/

/-- A field depends on no byte but those its row reads. -/
theorem readField_congr {b b' : ByteString} {row : SchemaRow} (h : ∀ i ∈ rowReads row, b'[i]? = b[i]?) :
    readField b' row = readField b row := by
  have same : ∀ i ∈ rowReads row, byteAt b' i = byteAt b i := fun i hi => byteAt_congr (h i hi)
  cases hk : row.kind with
  | u16 =>
    simp only [rowReads_of_u16 hk, List.forall_mem_cons] at same
    obtain ⟨h0, h1, _⟩ := same
    rw [readField_of_u16 hk, readField_of_u16 hk, be16At, h0, h1, be16At]
  | acc32 =>
    simp only [rowReads_of_acc32 hk, List.forall_mem_cons] at same
    obtain ⟨h0, h1, h4, h5, _⟩ := same
    rw [readField_of_acc32 hk, readField_of_acc32 hk, acc32At, be16At, accHiB3Delta, accHiB2Delta, h0, h1,
      h4, h5, acc32At, be16At, accHiB3Delta, accHiB2Delta]

theorem decodeFields_congr {S : Schema} {b b' : ByteString}
    (h : ∀ row ∈ S, ∀ i ∈ rowReads row, b'[i]? = b[i]?) : decodeFields S b' = decodeFields S b :=
  List.map_congr_left fun row hrow => by rw [readField_congr (h row hrow)]

theorem decodeFields_length (S : Schema) (b : ByteString) : (decodeFields S b).length = S.length :=
  List.length_map ..

theorem decodeFields_names (S : Schema) (b : ByteString) : (decodeFields S b).map Prod.fst = S.fields := by
  rw [decodeFields, List.map_map]
  rfl

/-- Under distinct names a report maps each row's name to that row's field. -/
theorem decodeFields_find {S : Schema} (hnames : S.fields.Nodup) (b : ByteString) {row : SchemaRow}
    (h : row ∈ S) : (decodeFields S b).find row.name = some (readField b row) := by
  induction S with
  | nil => cases h
  | cons r S ih =>
    obtain ⟨hfresh, hrest⟩ := List.nodup_cons.mp hnames
    rw [Report.find, decodeFields, List.map_cons]
    rcases List.mem_cons.mp h with rfl | htail
    · exact List.lookup_cons_self
    · have hne : (row.name == r.name) = false := by
        rw [beq_eq_false_iff_ne]
        intro hsame
        have hmem : row.name ∈ Schema.fields S := List.mem_map_of_mem htail
        rw [hsame] at hmem
        exact hfresh hmem
      rw [List.lookup_cons, hne]
      exact ih hrest htail

/-- Settles O17: a row reads no byte at or beyond REQ_LEN, and a field depends on what its row reads. -/
theorem bytesBeyondSchemaAreIgnored : Obligations.BytesBeyondSchemaAreIgnored := by
  refine ⟨fun S b extra hlen => decodeFields_congr fun row hrow i hi => ?_,
    fun S b b' h => decodeFields_congr fun row hrow i hi => h i (List.mem_flatMap.mpr ⟨row, hrow, hi⟩)⟩
  have inside : i < b.length := calc
    i < row.footprint := (bounds_of_mem_rowReads hi).2
    _ ≤ S.reqLen := footprint_le_reqLen hrow
    _ ≤ b.length := hlen
  exact List.getElem?_append_left inside

/-! ## The packer (R137) -/

/-- The kind of field that holds a raw value. -/
def Raw.kind : Raw → FieldKind
  | .u16 _ => .u16
  | .acc32 _ => .acc32

/-- The packer's condition on a row and its value (R137), as an equation of kinds. -/
theorem kind_eq_iff {row : SchemaRow} {raw : Raw} :
    row.kind = raw.kind ↔ (row.kind = .u16 ↔ ∃ w, raw = .u16 w) := by
  cases raw <;> cases row.kind <;> simp [Raw.kind]

/-- Packing the rows of `rows` into a body one after the other. -/
def packOnto (b : ByteString) (rows : List (SchemaRow × Raw)) : ByteString :=
  rows.foldl (fun b e => packField b e.1 e.2) b

theorem packFields_eq_packOnto (S : Schema) (values : List Raw) (fill : Byte) :
    packFields S values fill = packOnto (List.replicate S.reqLen fill) (S.zip values) := rfl

theorem packOnto_cons (b : ByteString) (e : SchemaRow × Raw) (rows : List (SchemaRow × Raw)) :
    packOnto b (e :: rows) = packOnto (packField b e.1 e.2) rows := rfl

theorem packField_length (b : ByteString) (row : SchemaRow) (raw : Raw) :
    (packField b row raw).length = b.length := by
  cases raw <;> simp only [packField, List.length_set]

/-- Packing a field writes only where its row reads. -/
theorem packField_getElem?_of_not_mem {b : ByteString} {row : SchemaRow} {raw : Raw} {i : Nat}
    (hkind : row.kind = raw.kind) (hi : i ∉ rowReads row) : (packField b row raw)[i]? = b[i]? := by
  cases raw with
  | u16 w =>
    simp only [rowReads_of_u16 hkind, List.mem_cons, List.not_mem_nil, or_false, not_or] at hi
    obtain ⟨h0, h1⟩ := hi
    rw [packField, List.getElem?_set_ne (Ne.symm h1), List.getElem?_set_ne (Ne.symm h0)]
  | acc32 w =>
    simp only [rowReads_of_acc32 hkind, List.mem_cons, List.not_mem_nil, or_false, not_or] at hi
    obtain ⟨h0, h1, h4, h5⟩ := hi
    rw [packField, accHiB3Delta, accHiB2Delta, List.getElem?_set_ne (Ne.symm h5),
      List.getElem?_set_ne (Ne.symm h4), List.getElem?_set_ne (Ne.symm h1),
      List.getElem?_set_ne (Ne.symm h0)]

/-- One field is read back as it was packed. -/
theorem readField_packField {b : ByteString} {row : SchemaRow} {raw : Raw}
    (hkind : row.kind = raw.kind) (hfit : row.footprint ≤ b.length) :
    readField (packField b row raw) row = ⟨raw, row.scale⟩ := by
  cases raw with
  | u16 w =>
    rw [footprint_of_u16 hkind] at hfit
    rw [readField_of_u16 hkind, packField, be16At_eq_of_bytes (w := w)]
    · rw [byteAt_set_other (by omega), byteAt_set_same (by omega)]
    · rw [byteAt_set_same (by simp only [List.length_set]; omega)]
  | acc32 w =>
    rw [footprint_of_acc32 hkind] at hfit
    rw [readField_of_acc32 hkind, packField, accHiB3Delta, accHiB2Delta, acc32At_eq_of_bytes (w := w)]
    · rw [byteAt_set_other (by omega), byteAt_set_other (by omega), byteAt_set_other (by omega),
        byteAt_set_same (by omega)]
    · rw [byteAt_set_other (by omega), byteAt_set_other (by omega),
        byteAt_set_same (by simp only [List.length_set]; omega)]
    · rw [byteAt_set_other (by omega), byteAt_set_same (by simp only [List.length_set]; omega)]
    · rw [byteAt_set_same (by simp only [List.length_set]; omega)]

theorem packOnto_getElem?_of_not_mem {rows : List (SchemaRow × Raw)} {i : Nat}
    (hkinds : ∀ e ∈ rows, e.1.kind = e.2.kind) (hi : ∀ e ∈ rows, i ∉ rowReads e.1) (b : ByteString) :
    (packOnto b rows)[i]? = b[i]? := by
  induction rows generalizing b with
  | nil => rfl
  | cons e rows ih =>
    obtain ⟨hkind, hkinds⟩ := List.forall_mem_cons.mp hkinds
    obtain ⟨hnot, hnots⟩ := List.forall_mem_cons.mp hi
    rw [packOnto_cons, ih hkinds hnots, packField_getElem?_of_not_mem hkind hnot]

/-- Every field of a packed body is read back: the rows packed after it write none of its bytes. -/
theorem readField_packOnto {rows : List (SchemaRow × Raw)} {b : ByteString}
    (hkinds : ∀ e ∈ rows, e.1.kind = e.2.kind) (hfits : ∀ e ∈ rows, e.1.footprint ≤ b.length)
    (hdisjoint : (rows.flatMap fun e => rowReads e.1).Nodup) :
    ∀ e ∈ rows, readField (packOnto b rows) e.1 = ⟨e.2, e.1.scale⟩ := by
  induction rows generalizing b with
  | nil => exact fun _ h => nomatch h
  | cons e rows ih =>
    obtain ⟨hkind, hkinds⟩ := List.forall_mem_cons.mp hkinds
    obtain ⟨hfit, hfits⟩ := List.forall_mem_cons.mp hfits
    obtain ⟨_, hrest, hapart⟩ := List.nodup_append.mp (List.flatMap_cons ▸ hdisjoint)
    rw [packOnto_cons]
    refine List.forall_mem_cons.mpr ⟨?_, ih hkinds (by simpa only [packField_length] using hfits) hrest⟩
    have kept : ∀ i ∈ rowReads e.1,
        (packOnto (packField b e.1 e.2) rows)[i]? = (packField b e.1 e.2)[i]? := fun i hi =>
      packOnto_getElem?_of_not_mem hkinds
        (fun e' he' hi' => hapart i hi i (List.mem_flatMap.mpr ⟨e', he', hi'⟩) rfl) _
    rw [readField_congr kept, readField_packField hkind hfit]

/-- Settles O19: the rows are read back one by one, by induction on them in `readField_packOnto`. -/
theorem decodeInvertsPack : Obligations.DecodeInvertsPack := by
  intro S values fill hdisjoint hlen hkinds
  have hrows : (S.zip values).map Prod.fst = S := List.map_fst_zip hlen.le
  have hreads : ((S.zip values).flatMap fun e => rowReads e.1) = S.flatMap rowReads := by
    conv_rhs => rw [← hrows, List.flatMap_map]
  have hfits : ∀ e ∈ S.zip values, e.1.footprint ≤ (List.replicate S.reqLen fill).length := by
    intro e he
    rw [List.length_replicate]
    exact footprint_le_reqLen (List.of_mem_zip he).1
  have hread := readField_packOnto (fun e he => kind_eq_iff.mpr (hkinds e he)) hfits
    (hreads ▸ hdisjoint)
  calc decodeFields S (packFields S values fill)
      = (S.zip values).map
          (fun e => (e.1.name, readField (packFields S values fill) e.1)) := by
        conv_lhs => rw [decodeFields, ← hrows, List.map_map, hrows]
        rfl
    _ = (S.zip values).map (fun e => (e.1.name, ⟨e.2, e.1.scale⟩)) :=
        List.map_congr_left fun e he => by rw [packFields_eq_packOnto, hread e he]

end Sys2Proof.Machine

namespace Sys2Proof.Machine

/-! ## Frames that verify: a body and its CRC (R110 (a)) -/

@[simp] theorem crcVfy_append_crcGen (b : ByteString) : crcVfy (b ++ crcGen b) = true :=
  crcVfy_iff.mpr ⟨b, rfl⟩

@[simp] theorem body_append_crcGen (b : ByteString) : body (b ++ crcGen b) = b :=
  body_append (crcGen_length b)

/-! ## FRM.ENC (R126) -/

theorem frmEnc_length (code : Key) (payload : ByteString) :
    (frmEnc code payload).length = payload.length + 4 := by
  rw [frmEnc, List.length_append, crcGen_length, List.length_append, be16, List.length_cons,
    List.length_cons, List.length_nil]
  omega

theorem frmEncWithin_of_le {bound : Nat} {code : Key} {payload : ByteString}
    (h : (frmEnc code payload).length ≤ bound) (s : State) :
    frmEncWithin (some bound) code payload s = .next (s.respond (.bytes (frmEnc code payload))) := by
  rw [frmEnc_length] at h
  exact if_pos (decide_eq_true h)

theorem frmEncWithin_of_lt {bound : Nat} {code : Key} {payload : ByteString}
    (h : bound < (frmEnc code payload).length) (s : State) :
    frmEncWithin (some bound) code payload s = .refused .frameTooLong := by
  rw [frmEnc_length] at h
  exact if_neg fun hfits => Nat.not_le.mpr h (of_decide_eq_true hfits)

/-- Settles O10: the frame is a body and its CRC, so it verifies; the examples by evaluation. -/
theorem frmEncBuildsVerifiedFrame : Obligations.FrmEncBuildsVerifiedFrame := by
  refine ⟨fun code payload s => ⟨frmEnc code payload, rfl, ?_, frmEnc_length code payload,
    crcVfy_append_crcGen _, fun bound => ⟨(frmEncWithin_of_le · s), (frmEncWithin_of_lt · s)⟩⟩,
    by decide +kernel, by decide +kernel⟩
  rw [← be16_eq_ofNat]
  rfl

/-! ## FRM.DEC (R127, R131) -/

theorem shapeApplies_iff {d : Byte} {S : Schema} {b : ByteString} :
    shapeApplies d S b = true ↔ b[2]? = some d ∧ S.reqLen ≤ b.length := by
  rw [shapeApplies, Bool.and_eq_true, beq_iff_eq, decide_eq_true_eq, disc, discOffset]

/-- What the engine makes of a verified body (R127 steps 2 to 4). -/
def replyOf (b : ByteString) : Reply :=
  if b[2]? = some 0x3C#8 ∧ Config.params.settings.reqLen ≤ b.length then
    .settings (decodeFields Config.params.settings b)
  else if b[2]? = some 0x1C#8 ∧ Config.params.limits.reqLen ≤ b.length then
    .limits (decodeFields Config.params.limits b)
  else .raw b

/-- FRM.DEC of a frame that verifies. -/
theorem exec_frmDec_append_crcGen (b : ByteString) (s : State) :
    exec (.frmDec (b ++ crcGen b)) s = .next { s with ret := .reply (replyOf b) } := by
  have decoded : frmDec Config.params.settings Config.params.limits (b ++ crcGen b) =
      some (replyOf b) := by
    rw [frmDec, if_pos (crcVfy_append_crcGen b), body_append_crcGen]
    simp only [shapeApplies_iff, discSettings, discLimits, replyOf, ← apply_ite some]
  simp only [exec, execFrmDec, withinFrame_default, decoded]
  rfl

/-- FRM.DEC of a frame that does not verify is CrcMismatch. -/
theorem exec_frmDec_of_crcVfy_eq_false {frame : ByteString} (h : crcVfy frame = false) (s : State) :
    exec (.frmDec frame) s = .next { s with ret := .err .crc } := by
  simp only [exec, execFrmDec, withinFrame_default, frmDec, h]
  rfl

/-! The three replies of a verified body. -/

theorem replyOf_settings {b : ByteString} (hdisc : b[2]? = some 0x3C#8)
    (hlen : Config.params.settings.reqLen ≤ b.length) :
    replyOf b = .settings (decodeFields Config.params.settings b) :=
  if_pos ⟨hdisc, hlen⟩

theorem replyOf_limits {b : ByteString} (hdisc : b[2]? = some 0x1C#8)
    (hlen : Config.params.limits.reqLen ≤ b.length) :
    replyOf b = .limits (decodeFields Config.params.limits b) := by
  have not_settings : ¬ (b[2]? = some 0x3C#8 ∧ Config.params.settings.reqLen ≤ b.length) := by
    rw [hdisc]
    exact fun h => absurd h.1 (by decide)
  rw [replyOf, if_neg not_settings, if_pos ⟨hdisc, hlen⟩]

theorem replyOf_raw {b : ByteString}
    (hset : b[2]? = some 0x3C#8 → b.length < Config.params.settings.reqLen)
    (hlim : b[2]? = some 0x1C#8 → b.length < Config.params.limits.reqLen) : replyOf b = .raw b := by
  rw [replyOf, if_neg fun h => Nat.not_le.mpr (hset h.1) h.2,
    if_neg fun h => Nat.not_le.mpr (hlim h.1) h.2]

/-- The three ways of R131 in which a body falls short of a report. -/
theorem replyOf_short {b : ByteString}
    (h : b.length < 3 ∨ (b[2]? = some 0x3C#8 ∧ b.length < Config.params.settings.reqLen) ∨
      (b[2]? = some 0x1C#8 ∧ b.length < Config.params.limits.reqLen)) : replyOf b = .raw b := by
  have other : (0x3C#8 : Byte) ≠ 0x1C#8 := by decide
  rcases h with hlen | ⟨hdisc, hlen⟩ | ⟨hdisc, hlen⟩
  · have absent : b[2]? = none := List.getElem?_eq_none (by omega)
    exact replyOf_raw (by simp [absent]) (by simp [absent])
  · exact replyOf_raw (fun _ => hlen) (by simp [hdisc])
  · exact replyOf_raw (by simp [hdisc]) (fun _ => hlen)

/-- Settles O16, by `replyOf_short`. -/
theorem shortBodiesDecodeAsRawBytes : Obligations.ShortBodiesDecodeAsRawBytes := by
  intro b s hshort
  rw [exec_frmDec_append_crcGen, replyOf_short hshort]

/-- Settles O11: the CRC first, then the reply of the body. -/
theorem frmDecFollowsFourSteps : Obligations.FrmDecFollowsFourSteps := by
  refine fun s => ⟨fun frame h => exec_frmDec_of_crcVfy_eq_false h s, fun b hlen => ?_,
    fun b d hdisc => ?_⟩
  · rw [exec_frmDec_append_crcGen, replyOf_short (.inl hlen)]
  · rw [exec_frmDec_append_crcGen, replyOf, hdisc]
    simp only [Option.some.injEq]

/-- The discriminator of an encoded command is its first payload byte. -/
theorem command_getElem?_two (code : Key) (payload : ByteString) :
    (be16 code ++ payload)[2]? = payload.head? := by
  rw [List.getElem?_append_right (by rfl), List.head?_eq_getElem?]
  rfl

/-- Settles O18: an encoded command is a verified frame, and R127 reads its first payload byte. -/
theorem encodedCommandDecodesToItself : Obligations.EncodedCommandDecodesToItself := by
  intro code payload s
  have decoded := exec_frmDec_append_crcGen (be16 code ++ payload) s
  refine ⟨⟨_, decoded⟩, fun hset hlim => ?_⟩
  rw [← command_getElem?_two code payload] at hset hlim
  rw [replyOf_raw (absurd · hset) (absurd · hlim)] at decoded
  exact decoded

/-! ## The arms of FRM.DEC (R128 to R130) -/

theorem exec_frmDecRaw_append_crcGen (b : ByteString) (s : State) :
    exec (.frmDecRaw (b ++ crcGen b)) s = .next { s with ret := .reply (.raw b) } := by
  simp only [exec, execFrmDecRaw, withinFrame_default, frmDecRaw, crcVfy_append_crcGen,
    body_append_crcGen]
  rfl

/-- Settles O14: the example's last two bytes are the CRC of the six before them. -/
theorem frmDecRawReturnsWholeBody : Obligations.FrmDecRawReturnsWholeBody := by
  refine ⟨exec_frmDecRaw_append_crcGen, fun frame s h => ?_, fun s => ?_⟩
  · simp only [exec, execFrmDecRaw, withinFrame_default, frmDecRaw, h]
    rfl
  · have trailer_of_example :
        crcGen [0x01#8, 0x06#8, 0x00#8, 0x00#8, 0x04#8, 0xB0#8] = [0x8A#8, 0xBE#8] := by decide +kernel
    have decoded := exec_frmDecRaw_append_crcGen [0x01#8, 0x06#8, 0x00#8, 0x00#8, 0x04#8, 0xB0#8] s
    rwa [trailer_of_example] at decoded

/-- Where its frame carries 0x3C, the SETTINGS arm is FRM.DEC. -/
theorem exec_frmDecSet_eq {frame : ByteString} (h : frame[2]? = some 0x3C#8) (s : State) :
    exec (.frmDecSet frame) s = exec (.frmDec frame) s :=
  (frmDecArmsAgreeWithFrmDec frame s).1 (wellFormed_frmDecSet_iff.mpr h)

/-- Where its frame carries 0x1C, the LIMITS arm is FRM.DEC. -/
theorem exec_frmDecLim_eq {frame : ByteString} (h : frame[2]? = some 0x1C#8) (s : State) :
    exec (.frmDecLim frame) s = exec (.frmDec frame) s :=
  (frmDecArmsAgreeWithFrmDec frame s).2.1 (wellFormed_frmDecLim_iff.mpr h)

/-- A frame and its body carry the same discriminator, where the body reaches to it. -/
theorem frame_getElem?_two {b : ByteString} (h : 3 ≤ b.length) : (b ++ crcGen b)[2]? = b[2]? :=
  List.getElem?_append_left h

/-- A body that falls short of the report its frame's byte 2 announces. In a body of less than three bytes
that byte is one of the trailer, and the body has no discriminator. -/
theorem replyOf_arm_short {b : ByteString} {d : Byte} {S : Schema} (hdisc : (b ++ crcGen b)[2]? = some d)
    (hshape : d = 0x3C#8 ∧ S = Config.params.settings ∨ d = 0x1C#8 ∧ S = Config.params.limits)
    (hshort : b.length < 3 ∨ b.length < S.reqLen) : replyOf b = .raw b := by
  rcases Nat.lt_or_ge b.length 3 with hlen | hlen
  · exact replyOf_short (.inl hlen)
  · rw [frame_getElem?_two hlen] at hdisc
    have hreq := hshort.resolve_left (Nat.not_lt.mpr hlen)
    rcases hshape with ⟨rfl, rfl⟩ | ⟨rfl, rfl⟩
    · exact replyOf_short (.inr (.inl ⟨hdisc, hreq⟩))
    · exact replyOf_short (.inr (.inr ⟨hdisc, hreq⟩))

/-! What R81 to R83 fix of the engine's schemas. -/

theorem fields_nodup_of_ok {S : Schema} (h : S.ok = true) : S.fields.Nodup := by
  rw [Schema.ok, Bool.and_eq_true, decide_eq_true_eq] at h
  exact h.1

theorem names_and_rows_of_okSettings {S : Schema} (h : S.okSettings = true) :
    S.fields.Nodup ∧ S.length = 18 := by
  simp only [Schema.okSettings, Bool.and_eq_true, beq_iff_eq, nSettingsFields] at h
  exact ⟨fields_nodup_of_ok (by simp only [h]), by simp only [h]⟩

theorem names_and_rows_of_okLimits {S : Schema} (h : S.okLimits = true) :
    S.fields.Nodup ∧ S.length = 12 := by
  simp only [Schema.okLimits, Bool.and_eq_true, beq_iff_eq, nLimitsFields] at h
  exact ⟨fields_nodup_of_ok (by simp only [h]), by simp only [h]⟩

/-- A row reads its own offset, so its footprint lies beyond it. -/
theorem off_lt_footprint (row : SchemaRow) : row.off < row.footprint := by
  cases hk : row.kind with
  | u16 => rw [footprint_of_u16 hk]; omega
  | acc32 => rw [footprint_of_acc32 hk]; omega

/-- A schema of the data region needs a body that reaches beyond the discriminator (R72). -/
theorem dataOffset_lt_reqLen {S : Schema} (hdata : S.inData = true) (hrows : 0 < S.length) :
    dataOffset < S.reqLen := by
  obtain ⟨row, hrow⟩ := List.exists_mem_of_length_pos hrows
  calc dataOffset ≤ row.off := dataOffset_le hdata hrow
    _ < row.footprint := off_lt_footprint row
    _ ≤ S.reqLen := footprint_le_reqLen hrow

/-! What R128 and R129 say of a report. -/

/-- A report of a schema with distinct names: as many entries as rows, each row's field under its name. -/
theorem decodeFields_report {S : Schema} {n : Nat} (h : S.fields.Nodup ∧ S.length = n) (b : ByteString) :
    (decodeFields S b).length = n ∧ ((decodeFields S b).map Prod.fst).Nodup ∧
      ∀ row ∈ S, (decodeFields S b).find row.name = some (readField b row) := by
  obtain ⟨hnames, hlen⟩ := h
  rw [decodeFields_names, decodeFields_length]
  exact ⟨hlen, hnames, fun row hrow => decodeFields_find hnames b hrow⟩

theorem getElem?_eq_of_drop_take_eq {b b' : ByteString} {lo hi i : Nat}
    (h : (b'.take hi).drop lo = (b.take hi).drop lo) (hlo : lo ≤ i) (hhi : i < hi) : b'[i]? = b[i]? := by
  have entry := congrArg (·[i - lo]?) h
  simpa only [List.getElem?_drop, Nat.add_sub_cancel' hlo, List.getElem?_take_of_lt hhi] using entry

/-- Neither the key nor the bytes beyond REQ_LEN enter the report of a schema of the data region. -/
theorem decodeFields_eq_of_data_eq {S : Schema} (hdata : S.inData = true) {b b' : ByteString}
    (h : (b'.take S.reqLen).drop 2 = (b.take S.reqLen).drop 2) : decodeFields S b' = decodeFields S b := by
  refine decodeFields_congr fun row hrow i hi => getElem?_eq_of_drop_take_eq h ?_ ?_
  · calc 2 ≤ dataOffset := by decide
      _ ≤ row.off := dataOffset_le hdata hrow
      _ ≤ i := (bounds_of_mem_rowReads hi).1
  · exact (bounds_of_mem_rowReads hi).2.trans_le (footprint_le_reqLen hrow)

/-- The SETTINGS arm of a body with its discriminator and of its length. -/
theorem exec_frmDecSet_settings {b : ByteString} (hlen : 3 ≤ b.length) (hdisc : b[2]? = some 0x3C#8)
    (hreq : Config.params.settings.reqLen ≤ b.length) (s : State) :
    exec (.frmDecSet (b ++ crcGen b)) s =
      .next { s with ret := .reply (.settings (decodeFields Config.params.settings b)) } := by
  rw [exec_frmDecSet_eq ((frame_getElem?_two hlen).trans hdisc), exec_frmDec_append_crcGen,
    replyOf_settings hdisc hreq]

/-- Settles O12: the arm is FRM.DEC on its frames; the report's rows stand in the data region. -/
theorem frmDecSetReturnsSettingsReport : Obligations.FrmDecSetReturnsSettingsReport := by
  intro frame s hframe
  have hschema := names_and_rows_of_okSettings Config.params.settings_ok
  refine ⟨?_, ?_, fun hbad => ?_⟩
  · rintro b rfl hlen hreq
    have hdisc : b[2]? = some 0x3C#8 := (frame_getElem?_two hlen).symm.trans hframe
    obtain ⟨hcount, hnames, hfind⟩ := decodeFields_report hschema b
    refine ⟨_, exec_frmDecSet_settings hlen hdisc hreq s, hcount, hnames, hfind, fun b' hreq' hsame => ?_⟩
    have hreach : 3 < Config.params.settings.reqLen :=
      dataOffset_lt_reqLen Config.params.settings_inData (by rw [hschema.2]; decide)
    have hdisc' : b'[2]? = some 0x3C#8 :=
      (getElem?_eq_of_drop_take_eq hsame le_rfl (by omega)).trans hdisc
    rw [exec_frmDecSet_settings (by omega) hdisc' hreq',
      decodeFields_eq_of_data_eq Config.params.settings_inData hsame]
  · rintro b rfl hshort
    rw [exec_frmDecSet_eq hframe, exec_frmDec_append_crcGen,
      replyOf_arm_short hframe (.inl ⟨rfl, rfl⟩) hshort]
  · rw [exec_frmDecSet_eq hframe, exec_frmDec_of_crcVfy_eq_false hbad]

/-- Settles O13: the arm is FRM.DEC on its frames. -/
theorem frmDecLimReturnsLimitsReport : Obligations.FrmDecLimReturnsLimitsReport := by
  intro frame s hframe
  rw [exec_frmDecLim_eq hframe]
  refine ⟨?_, ?_, fun hbad => exec_frmDec_of_crcVfy_eq_false hbad s⟩
  · rintro b rfl hlen hreq
    have hdisc : b[2]? = some 0x1C#8 := (frame_getElem?_two hlen).symm.trans hframe
    rw [exec_frmDec_append_crcGen, replyOf_limits hdisc hreq]
    exact ⟨_, rfl, decodeFields_report (names_and_rows_of_okLimits Config.params.limits_ok) b⟩
  · rintro b rfl hshort
    rw [exec_frmDec_append_crcGen, replyOf_arm_short hframe (.inr ⟨rfl, rfl⟩) hshort]

/-! ## The example of R136 -/

theorem readField_setVoltage {row : SchemaRow} {b : ByteString} (hkind : row.kind = .u16)
    (hscale : row.scale = 100) (hhigh : b[row.off]? = some 0x0B#8) (hlow : b[row.off + 1]? = some 0xB8#8) :
    readField b row = ⟨.u16 3000#16, 100⟩ := by
  rw [readField_of_u16 hkind, hscale,
    be16At_eq_of_bytes (w := 3000#16) (byteAt_of_getElem? hhigh) (byteAt_of_getElem? hlow)]

/-- Settles O20: the row's field is (3000, 100) in any report that has the row. -/
theorem setVoltageExampleDecodesToThirty : Obligations.SetVoltageExampleDecodesToThirty := by
  unfold Obligations.SetVoltageExampleDecodesToThirty
  intro thirty row b hkind hscale hhigh hlow
  have shown : ∀ S : Schema, row ∈ S → S.fields.Nodup → thirty (decodeFields S b) row := by
    intro S hrow hnames
    refine ⟨⟨.u16 3000#16, 100⟩, ?_, by decide, rfl, ?_, by decide⟩
    · rw [decodeFields_find hnames b hrow, readField_setVoltage hkind hscale hhigh hlow]
    · norm_num [FieldValue.value, Raw.toNat]
  refine ⟨shown, fun s hrow hdisc hreq => ⟨decodeFields Config.params.settings b, ?_, ?_⟩⟩
  · rw [exec_frmDec_append_crcGen, replyOf_settings hdisc hreq]
  · exact shown _ hrow (names_and_rows_of_okSettings Config.params.settings_ok).1

end Sys2Proof.Machine

namespace Sys2Proof.Machine

/-! ## What an operation does to the query unit (R180) -/

section QueryUnit
variable {s t : State} {i : Instr}

theorem queryDones_of_same (h : t.donelog = s.donelog) : t.queryDones = s.queryDones := by
  rw [State.queryDones, h, State.queryDones]

theorem queryDones_of_host {k : Key} {o : Completion} (h : t.donelog = s.donelog ++ [⟨.host, k, o⟩]) :
    t.queryDones = s.queryDones := by
  simp [State.queryDones, h]

theorem queryDones_of_query {k : Key} {o : Completion}
    (h : t.donelog = s.donelog ++ [⟨.query, k, o⟩]) : t.queryDones = s.queryDones + 1 := by
  simp [State.queryDones, h]

/-- `qry_attempt` sends QFRAME and waits, or the attempt has failed, for whatever cause (R171). -/
theorem qryAttempt_sends_or_fails (P : Params) (s : State) :
    (qryAttempt P s = { s with
        slots := s.slots.put s.qcode ⟨s.qcode, s.qattempt, s.now + tAttemptMs, .query⟩
        txlog := s.txlog ++ [(s.qframe, .ok)], qstate := .wait }) ∨
    (∃ cause sent, qryAttempt P s = qryAttemptFailed P cause { s with txlog := sent }) := by
  rcases qryAttempt_cases P s with ⟨_, _, ha, e⟩ | ⟨_, _, _, e⟩ | ⟨_, _, e⟩ | ⟨_, e⟩
  · exact .inl (by rw [e, ← ha]; rfl)
  · exact .inr ⟨.transport, _, e⟩
  · exact .inr ⟨.busy, s.txlog, e⟩
  · exact .inr ⟨.notReady, s.txlog, e⟩

/-- Everything an operation can do to the query unit: leave QSTATE, refuse a query outside S_READY, or
move along a row of the transition table (R180). -/
inductive State.UnitMove (i : Instr) (s t : State) : Prop
  | stays (sameState : t.qstate = s.qstate) (noDone : t.queryDones = s.queryDones)
      (held : startsQuery i = true → s.qstate ≠ .idle)
  | refused (starts : startsQuery i = true) (idle : s.qstate = .idle) (notReady : s.sess ≠ .ready)
      (staysIdle : t.qstate = .idle) (done : t.queryDones = s.queryDones + 1)
  | started (starts : startsQuery i = true) (idle : s.qstate = .idle) (ready : s.sess = .ready)
      (first : t.qattempt = 1) (noDone : t.donelog = s.donelog)
      (moves : t.qstate = .wait ∧ t.txlog = s.txlog ++ [(t.qframe, .ok)] ∨
        t.qstate = .backoff ∧ t.slots = s.slots ∧
          t.qbackoffUntil = s.now + Config.params.backoffMs)
  | resolved (bytes : ByteString) (reply : Reply) (op : i = .corRx bytes) (waits : s.qstate = .wait)
      (ends : t.qstate = .idle) (noSlot : t.slots.get s.qcode = none) (key : be16At bytes 0 = s.qcode)
      (decoded : frmDec Config.params.settings Config.params.limits bytes = some reply)
      (done : t.donelog = s.donelog ++ [⟨.query, s.qcode, .resolved reply⟩])
  | timedOut (op : i = .corExpire s.qcode) (waits : s.qstate = .wait)
      (noSlot : t.slots.get s.qcode = none)
      (moves : s.qattempt < 3 ∧ t.qstate = .backoff ∧ t.donelog = s.donelog ∧
          t.qbackoffUntil = s.now + Config.params.backoffMs ∨
        s.qattempt = 3 ∧ t.qstate = .idle ∧
          t.donelog = s.donelog ++ [⟨.query, s.qcode, .cmdFail 3 .timeout⟩])
  | retried (op : i = .qryRetry) (backsOff : s.qstate = .backoff) (next : t.qattempt = s.qattempt + 1)
      (moves : t.qstate = .wait ∧ t.txlog = s.txlog ++ [(s.qframe, .ok)] ∧ t.donelog = s.donelog ∨
        t.qstate = .idle ∧ t.qattempt = 3 ∧ t.slots = s.slots ∧
          ∃ cause, t.donelog = s.donelog ++ [⟨.query, s.qcode, .cmdFail 3 cause⟩])

theorem qryStart_unitMove (c : Key) (f : ByteString) (hi : startsQuery i = true) :
    s.UnitMove i (qryStart Config.params i c f s) := by
  rcases qryStart_cases Config.params i c f s with ⟨hq, e⟩ | ⟨hq, hr, e⟩ | ⟨hq, hr, e⟩ <;> rw [e]
  · exact .stays rfl rfl fun _ => hq
  · exact .refused hi hq hr hq (queryDones_of_query rfl)
  · rcases qryAttempt_sends_or_fails Config.params (s.loadQuery c f) with e | ⟨cause, sent, e⟩
    · rw [e]
      exact .started hi hq hr rfl rfl (.inl ⟨rfl, rfl⟩)
    · rcases qryAttemptFailed_cases Config.params cause { s.loadQuery c f with txlog := sent } with
        ⟨_, e'⟩ | ⟨last, _⟩
      · rw [e, e']
        exact .started hi hq hr rfl rfl (.inr ⟨rfl, rfl, rfl⟩)
      · exact absurd last (by decide : ¬ maxAttempts ≤ 1)

theorem corRx_unitMove (h : s.Inv) (bytes : ByteString) :
    s.UnitMove (.corRx bytes) ((corRx Config.params bytes s).respond .nothing) := by
  rcases corRx_cases Config.params bytes s with e | ⟨reply, _, hd, e⟩ <;> rw [e]
  · exact .stays rfl rfl nofun
  · rcases corRxReply_cases bytes reply s with ⟨_, e⟩ | ⟨_, _, e⟩ | ⟨sl, hlen, hg, e⟩ <;> rw [e]
    · exact .stays rfl rfl nofun
    · exact .stays rfl rfl nofun
    · cases ho : sl.owner with
      | host =>
        rw [deliverReply_of_host ho]
        exact .stays rfl (queryDones_of_host rfl) nofun
      | query =>
        obtain ⟨hk, hw, _⟩ := (h.slotOk hg).query ho
        rw [deliverReply_of_query ho, hk]
        exact .resolved bytes reply rfl hw rfl (SlotTable.get_drop_same _ _)
          ((be16At_body hlen).symm.trans hk) hd rfl

theorem corExpire_unitMove (h : s.Inv) (k : Key) :
    s.UnitMove (.corExpire k) ((corExpire Config.params k s).respond .nothing) := by
  rcases corExpire_cases Config.params k s with e | ⟨sl, hg, _, e⟩ <;> rw [e]
  · exact .stays rfl rfl nofun
  · cases ho : sl.owner with
    | host =>
      rw [deliverTimeout_of_host ho]
      exact .stays rfl (queryDones_of_host rfl) nofun
    | query =>
      obtain ⟨rfl, hw, _⟩ := (h.slotOk hg).query ho
      have noSlot := SlotTable.get_drop_same s.slots s.qcode
      rw [deliverTimeout_of_query ho]
      rcases qryAttemptFailed_cases Config.params .timeout (s.dropSlot s.qcode) with
        ⟨left, e'⟩ | ⟨last, e'⟩ <;> rw [e']
      · exact .timedOut rfl hw noSlot (.inl ⟨left, rfl, rfl, rfl⟩)
      · have third : s.qattempt = 3 := le_antisymm (h.attempt_range (by simp [hw])).2 last
        exact .timedOut rfl hw noSlot (.inr ⟨third, rfl, by rw [← third]; rfl⟩)

theorem qryRetry_unitMove (h : s.Inv) :
    s.UnitMove .qryRetry ((qryRetry Config.params s).respond .nothing) := by
  rcases qryRetry_cases Config.params s with e | ⟨hb, _, e⟩ <;> rw [e]
  · exact .stays rfl rfl nofun
  · rcases qryAttempt_sends_or_fails Config.params (s.setAttempt (s.qattempt + 1)) with
      e | ⟨cause, sent, e⟩
    · rw [e]
      exact .retried rfl hb rfl (.inl ⟨rfl, rfl, rfl⟩)
    · rcases qryAttemptFailed_cases Config.params cause
          { s.setAttempt (s.qattempt + 1) with txlog := sent } with ⟨_, e'⟩ | ⟨last, e'⟩ <;> rw [e, e']
      · exact .stays hb.symm rfl nofun
      · have third : s.qattempt + 1 = 3 := le_antisymm (h.backoff_range hb).1 last
        exact .retried rfl hb rfl (.inr ⟨rfl, third, rfl, cause, by rw [← third]; rfl⟩)

theorem exec_unitMove (h : s.Inv) (he : exec i s = .next t) : s.UnitMove i t := by
  rcases exec_next_cases he with
    ⟨hi, _, r, rfl⟩ | ⟨a, rfl, _, hans⟩ | ⟨rfl, _, rfl⟩ | ⟨c, b, rfl, _, _, hans⟩ |
    ⟨c, f, hi, rfl⟩ | ⟨b, rfl, rfl⟩ | ⟨k, rfl, rfl⟩ | ⟨rfl, rfl⟩
  · exact .stays rfl rfl (by simp [hi])
  · rcases hans with ⟨_, rfl⟩ | ⟨_, rfl⟩ <;> exact .stays rfl rfl nofun
  · exact .stays rfl rfl nofun
  · rcases hans with ⟨_, rfl⟩ | ⟨_, rfl⟩ <;> exact .stays rfl rfl nofun
  · exact qryStart_unitMove c f hi
  · exact corRx_unitMove h b
  · exact corExpire_unitMove h k
  · exact qryRetry_unitMove h

end QueryUnit

/-- Settles O43: the moves that change QSTATE are the rows of the table. -/
theorem qStateFollowsTransitionTable : Obligations.QStateFollowsTransitionTable := by
  intro i s t h he changed
  cases exec_unitMove h he with
  | stays same => exact absurd same changed
  | refused _ idle _ staysIdle => exact absurd (staysIdle.trans idle.symm) changed
  | started starts idle ready first _ moves => exact .inl ⟨idle, starts, ready, first, moves⟩
  | resolved bytes reply op waits ends noSlot key decoded done =>
    exact .inr (.inl ⟨waits, ends, noSlot, bytes, reply, op, key, decoded, done⟩)
  | timedOut op waits noSlot moves => exact .inr (.inr (.inl ⟨waits, op, noSlot, moves⟩))
  | retried op backsOff next moves =>
    have row := moves.imp_left fun ⟨sends, sent, _⟩ => And.intro sends sent
    exact .inr (.inr (.inr ⟨backsOff, op, next, row⟩))

/-- Settles O44: each move delivers the completion that its row of the table asks for. -/
theorem everyQueryCompletesExactlyOnce : Obligations.EveryQueryCompletesExactlyOnce := by
  intro i s t h he
  cases exec_unitMove h he with
  | stays same noDone held =>
    rw [noDone, same, if_neg, Nat.add_zero]
    rintro (⟨busy, idle⟩ | ⟨idle, _, starts⟩)
    · exact busy idle
    · exact held starts idle
  | refused starts idle notReady _ done => rw [done, if_pos (.inr ⟨idle, notReady, starts⟩)]
  | started _ idle ready _ noDone => simp [queryDones_of_same noDone, idle, ready]
  | resolved _ _ _ waits ends _ _ _ done => simp [queryDones_of_query done, waits, ends]
  | timedOut _ waits _ moves =>
    rcases moves with ⟨_, backsOff, noDone, _⟩ | ⟨_, ends, done⟩
    · simp [queryDones_of_same noDone, waits, backsOff]
    · simp [queryDones_of_query done, waits, ends]
  | retried _ backsOff _ moves =>
    rcases moves with ⟨sends, _, noDone⟩ | ⟨ends, _, _, _, done⟩
    · simp [queryDones_of_same noDone, backsOff, sends]
    · simp [queryDones_of_query done, backsOff, ends]

end Sys2Proof.Machine

namespace Sys2Proof.Machine

/-! ## The slot layer, branch by branch: what each operation does under the conditions of its rule -/

theorem SlotTable.created_put (before : SlotTable) (k : Key) (sl : Slot) :
    before.Created (before.put k sl) k sl :=
  ⟨before.get_put_same k sl, fun _ hk => SlotTable.get_put_other hk before sl⟩

theorem SlotTable.destroyed_drop (before : SlotTable) (k : Key) : before.Destroyed (before.drop k) k :=
  ⟨before.get_drop_same k, fun _ hk => SlotTable.get_drop_other hk before⟩

section SlotLayer
variable {s : State} {P : Params} {k code : Key} {sl : Slot} {owner : Owner} {bytes : ByteString}
  {reply : Reply} {n : Nat}

/-! ### Writes (R156 to R159) -/

theorem corWrite_of_not_ready (hr : s.sess ≠ .ready) :
    corWrite code bytes owner n s = (s, some .notReady) := by
  simp [corWrite, hr]

theorem corWrite_of_present (hr : s.sess = .ready) (hp : s.slots.get code ≠ none) :
    corWrite code bytes owner n s = (s, some .busy) := by
  simp [corWrite, hr, State.pending, Option.isSome_iff_ne_none.mpr hp]

theorem corWrite_of_transport_error (hr : s.sess = .ready) (hn : s.slots.get code = none)
    (ha : s.ans = .error) : corWrite code bytes owner n s =
      ({ s with txlog := s.txlog ++ [(bytes, .error)] }, some .transport) := by
  rcases corWrite_cases code bytes owner n s with ⟨h, _⟩ | ⟨_, h, _⟩ | ⟨_, _, _, e⟩ | ⟨_, _, h, _⟩
  · exact absurd hr h
  · simp [State.pending, hn] at h
  · rw [e, ← ha]
    rfl
  · cases ha.symm.trans h

theorem corWrite_of_accepted (hr : s.sess = .ready) (hn : s.slots.get code = none)
    (ha : s.ans = .ok) : corWrite code bytes owner n s =
      ({ s with
        slots := s.slots.put code ⟨code, n, s.now + tAttemptMs, owner⟩
        txlog := s.txlog ++ [(bytes, .ok)] }, none) := by
  rcases corWrite_cases code bytes owner n s with ⟨h, _⟩ | ⟨_, h, _⟩ | ⟨_, _, h, _⟩ | ⟨_, _, _, e⟩
  · exact absurd hr h
  · simp [State.pending, hn] at h
  · cases ha.symm.trans h
  · rw [e, ← ha]
    rfl

theorem exec_corWrite_of_error {t : State} {e : Err} (h : corWrite code bytes .host 1 s = (t, some e)) :
    exec (.corWrite code bytes) s = .next (t.raise e (e.record code)) := by
  simp only [exec, execCorWrite, h]

theorem exec_corWrite_of_accepted {t : State} (h : corWrite code bytes .host 1 s = (t, none)) :
    exec (.corWrite code bytes) s = .next (t.respond .accepted) := by
  simp only [exec, execCorWrite, h]

/-! ### Inbound frames (R161 to R166) -/

theorem exec_corRx (bytes : ByteString) (s : State) :
    exec (.corRx bytes) s = .next ((corRx Config.params bytes s).respond .nothing) := rfl

theorem crcVfy_of_frmDec {settings limits : Schema} (h : frmDec settings limits bytes = some reply) :
    crcVfy bytes = true := by
  rw [frmDec] at h
  split at h
  · assumption
  · cases h

theorem corRx_of_dropped (h : s.sess ≠ .ready ∨ crcVfy bytes = false) : corRx P bytes s = s := by
  rcases corRx_cases P bytes s with e | ⟨reply, hr, hd, _⟩
  · exact e
  · exact (h.elim (· hr) (by simp [crcVfy_of_frmDec hd])).elim

theorem corRx_of_verified (hr : s.sess = .ready) (hd : frmDec P.settings P.limits bytes = some reply) :
    corRx P bytes s = corRxReply bytes reply s := by
  simp [corRx, State.rxEnabled, hr, hd]

theorem keyLen_le_body_length_iff : keyLen ≤ (body bytes).length ↔ 4 ≤ bytes.length := by
  rw [body, List.length_take, keyLen, trailerLen]
  omega

/-- A body without a key has no discriminator either, so it is RawBytes (R131). -/
theorem frmDec_of_no_key {settings limits : Schema} (hlen : bytes.length < 4)
    (hd : frmDec settings limits bytes = some reply) : reply = .raw (body bytes) := by
  have noDisc (d : Byte) (S : Schema) : shapeApplies d S (body bytes) = false := by
    have hbody : (body bytes).length ≤ discOffset := by
      rw [body, List.length_take, discOffset, trailerLen]
      omega
    simp [shapeApplies, disc, List.getElem?_eq_none hbody]
  simpa [frmDec, crcVfy_of_frmDec hd, noDisc, eq_comm] using hd

theorem body_eq_dropLast_dropLast (bytes : ByteString) : body bytes = bytes.dropLast.dropLast := by
  rw [body, trailerLen, List.dropLast_eq_take, List.dropLast_eq_take, List.take_take,
    List.length_take]
  congr 1
  omega

theorem corRxReply_of_no_key (hlen : bytes.length < 4) :
    corRxReply bytes reply s = s.logEvent (.unexpected none reply) := by
  have short : (body bytes).length < keyLen :=
    not_le.mp fun h => absurd (keyLen_le_body_length_iff.mp h) (not_le.mpr hlen)
  rw [corRxReply, if_pos short]

theorem corRxReply_of_absent (hlen : 4 ≤ bytes.length) (hn : s.slots.get (be16At bytes 0) = none) :
    corRxReply bytes reply s = s.logEvent (.unexpected (some (be16At bytes 0)) reply) := by
  have long := keyLen_le_body_length_iff.mpr hlen
  simp only [corRxReply, if_neg (not_lt.mpr long), be16At_body long, hn]

theorem corRxReply_of_slot (hlen : 4 ≤ bytes.length) (hg : s.slots.get (be16At bytes 0) = some sl) :
    corRxReply bytes reply s =
      deliverReply sl (be16At bytes 0) reply (s.dropSlot (be16At bytes 0)) := by
  have long := keyLen_le_body_length_iff.mpr hlen
  simp only [corRxReply, if_neg (not_lt.mpr long), be16At_body long, hg]

/-- After COR.RX of a verified frame its key has no slot, whether it had one or not (R165, R166). -/
theorem corRx_leaves_no_slot (hr : s.sess = .ready)
    (hd : frmDec P.settings P.limits bytes = some reply) (hlen : 4 ≤ bytes.length) :
    (corRx P bytes s).slots.get (be16At bytes 0) = none := by
  rw [corRx_of_verified hr hd]
  cases hg : s.slots.get (be16At bytes 0) with
  | none => rw [corRxReply_of_absent hlen hg, State.logEvent_slots, hg]
  | some sl =>
    obtain ⟨hslots, _⟩ := deliverReply_delivers sl (be16At bytes 0) reply (s.dropSlot (be16At bytes 0))
    rw [corRxReply_of_slot hlen hg, hslots, State.dropSlot_slots, SlotTable.get_drop_same]

/-- The whole step of an unexpected reply with a key (R166). -/
theorem exec_corRx_of_absent (hr : s.sess = .ready)
    (hd : frmDec Config.params.settings Config.params.limits bytes = some reply)
    (hlen : 4 ≤ bytes.length) (hn : s.slots.get (be16At bytes 0) = none) :
    exec (.corRx bytes) s =
      .next { s with evlog := s.evlog ++ [.unexpected (some (be16At bytes 0)) reply],
                     ret := .nothing } := by
  rw [exec_corRx, corRx_of_verified hr hd, corRxReply_of_absent hlen hn]
  rfl

/-- The whole step of an expected reply, but for what its waiter does (R165). -/
theorem exec_corRx_of_slot (hr : s.sess = .ready)
    (hd : frmDec Config.params.settings Config.params.limits bytes = some reply)
    (hlen : 4 ≤ bytes.length) (hg : s.slots.get (be16At bytes 0) = some sl) :
    exec (.corRx bytes) s = .next ((deliverReply sl (be16At bytes 0) reply
      (s.dropSlot (be16At bytes 0))).respond .nothing) := by
  rw [exec_corRx, corRx_of_verified hr hd, corRxReply_of_slot hlen hg]

/-! ### Deadlines (R168, R169) -/

theorem corExpire_of_absent (hn : s.slots.get k = none) : corExpire P k s = s := by
  simp only [corExpire, hn]

theorem corExpire_of_early (hg : s.slots.get k = some sl) (hd : s.now < sl.deadline) :
    corExpire P k s = s := by
  simp [corExpire, State.expireEnabled, hg, not_le.mpr hd]

theorem corExpire_of_due (hg : s.slots.get k = some sl) (hd : sl.deadline ≤ s.now) :
    corExpire P k s = deliverTimeout P sl k (s.dropSlot k) := by
  simp [corExpire, State.expireEnabled, hg, hd]

theorem exec_corExpire (k : Key) (s : State) :
    exec (.corExpire k) s = .next ((corExpire Config.params k s).respond .nothing) := rfl

end SlotLayer

/-! ## The query unit, branch by branch -/

section QueryBranches
variable {s t : State} {P : Params} {i : Instr} {code : Key} {frame : ByteString} {cause : Err}

theorem qryAttemptFailed_of_lt (P : Params) (cause : Err) (h : s.qattempt < 3) :
    qryAttemptFailed P cause s = { s with
      qlasterr := cause, qstate := .backoff, qbackoffUntil := s.now + P.backoffMs } := by
  rcases qryAttemptFailed_cases P cause s with ⟨_, e⟩ | ⟨last, _⟩
  · exact e
  · exact absurd last (not_le.mpr h)

theorem qryAttemptFailed_of_le (P : Params) (cause : Err) (h : 3 ≤ s.qattempt) :
    qryAttemptFailed P cause s = { s with
      qlasterr := cause, qstate := .idle,
      donelog := s.donelog ++ [⟨.query, s.qcode, .cmdFail s.qattempt cause⟩] } := by
  rcases qryAttemptFailed_cases P cause s with ⟨left, _⟩ | ⟨_, e⟩
  · exact absurd left (not_lt.mpr h)
  · exact e

theorem qryAttempt_of_error
    (h : corWrite s.qcode s.qframe .query s.qattempt s = (t, some cause)) :
    qryAttempt P s = qryAttemptFailed P cause t := by
  simp only [qryAttempt, h]

theorem qryAttempt_of_accepted (hr : s.sess = .ready) (hn : s.slots.get s.qcode = none)
    (ha : s.ans = .ok) : qryAttempt P s = { s with
      slots := s.slots.put s.qcode ⟨s.qcode, s.qattempt, s.now + tAttemptMs, .query⟩
      txlog := s.txlog ++ [(s.qframe, .ok)], qstate := .wait } := by
  simp only [qryAttempt, corWrite_of_accepted hr hn ha]
  rfl

theorem qryStart_of_busy (hq : s.qstate ≠ .idle) : qryStart P i code frame s = s.hold i := by
  simp [qryStart, State.qbusy, hq]

theorem qryStart_of_not_ready (hq : s.qstate = .idle) (hr : s.sess ≠ .ready) :
    qryStart P i code frame s = (s.complete .query code .notReady).respond .nothing := by
  simp [qryStart, State.qbusy, hq, hr]

theorem qryStart_of_ready (hq : s.qstate = .idle) (hr : s.sess = .ready) :
    qryStart P i code frame s = (qryAttempt P (s.loadQuery code frame)).respond .nothing := by
  simp [qryStart, State.qbusy, hq, hr]

theorem exec_qryStart (code : Key) (frame : ByteString) (s : State) :
    exec (.qryStart code frame) s =
      .next (qryStart Config.params (.qryStart code frame) code frame s) := rfl

/-- A query start whose first write is not accepted backs off: attempts are left (R171, R173). -/
theorem exec_qryStart_of_error (hq : s.qstate = .idle) (hr : s.sess = .ready)
    (h : corWrite code frame .query 1 (s.loadQuery code frame) = (t, some cause))
    (first : t.qattempt = 1) : exec (.qryStart code frame) s = .next { t with
      qlasterr := cause, qstate := .backoff, qbackoffUntil := t.now + Config.params.backoffMs,
      ret := .nothing } := by
  rw [exec_qryStart, qryStart_of_ready hq hr, qryAttempt_of_error h,
    qryAttemptFailed_of_lt _ _ (by omega)]
  rfl

/-- Every operation that starts a query is QRY.START with a code and a frame of its own (R190). -/
theorem exec_of_startsQuery (h : startsQuery i = true) :
    ∃ c f, ∀ s, exec i s = .next (qryStart Config.params i c f s) := by
  cases i with
  | qryStart _ _ | cmdStatus | cmdLimits | cmdSetv _ | cmdSeti _ | cmdSetbl _ | cmdSetbz _ | cmdSetto _
  | cmdOn | cmdOff | cmdRestart => exact ⟨_, _, fun _ => rfl⟩
  | _ => cases h

theorem wellFormed_of_startsQuery (h : startsQuery i = true) : i.wellFormed = true := by
  cases i with
  | qryStart _ _ | cmdStatus | cmdLimits | cmdSetv _ | cmdSeti _ | cmdSetbl _ | cmdSetbz _ | cmdSetto _
  | cmdOn | cmdOff | cmdRestart => rfl
  | _ => cases h

theorem exec_qryRetry (s : State) :
    exec .qryRetry s = .next ((qryRetry Config.params s).respond .nothing) := rfl

theorem qryRetry_of_disabled (h : s.qstate ≠ .backoff ∨ s.now < s.qbackoffUntil) :
    qryRetry P s = s := by
  rcases qryRetry_cases P s with e | ⟨hb, hd, _⟩
  · exact e
  · exact (h.elim (· hb) (not_lt.mpr hd)).elim

theorem qryRetry_of_due (hb : s.qstate = .backoff) (hd : s.qbackoffUntil ≤ s.now) :
    qryRetry P s = qryAttempt P (s.setAttempt (s.qattempt + 1)) := by
  simp [qryRetry, State.retryEnabled, hb, hd]

/-- The step of a query start whose first write is accepted (R170, R171). -/
theorem exec_qryStart_of_accepted (hq : s.qstate = .idle) (hr : s.sess = .ready)
    (hn : s.slots.get code = none) (ha : s.ans = .ok) : exec (.qryStart code frame) s =
      .next (s.queryStarted code frame (s.slots.put code ⟨code, 1, s.now + tAttemptMs, .query⟩)
        (Config.freeBackoffUntil s.fresh) (Config.freeLastErr s.fresh).err) := by
  rw [exec_qryStart, qryStart_of_ready hq hr,
    qryAttempt_of_accepted (s := s.loadQuery code frame) hr hn ha]
  rfl

/-- The step of a retry whose write is accepted (R174, R171). -/
theorem exec_qryRetry_of_accepted (hb : s.qstate = .backoff) (hd : s.qbackoffUntil ≤ s.now)
    (hr : s.sess = .ready) (hn : s.slots.get s.qcode = none) (ha : s.ans = .ok) :
    exec .qryRetry s = .next (s.attemptSent s.qcode s.qframe (s.qattempt + 1)
      (s.slots.put s.qcode ⟨s.qcode, s.qattempt + 1, s.now + tAttemptMs, .query⟩)) := by
  rw [exec_qryRetry, qryRetry_of_due hb hd,
    qryAttempt_of_accepted (s := s.setAttempt (s.qattempt + 1)) hr hn ha]
  rfl

variable {k : Key} {sl : Slot}

/-- The step of the query's deadline with attempts left (R168, R173). -/
theorem exec_corExpire_of_attempts_left (hg : s.slots.get k = some sl) (hd : sl.deadline ≤ s.now)
    (ho : sl.owner = .query) (left : s.qattempt < 3) : exec (.corExpire k) s = .next { s with
      slots := s.slots.drop k, ret := .nothing, qlasterr := .timeout, qstate := .backoff,
      qbackoffUntil := s.now + Config.params.backoffMs } := by
  rw [exec_corExpire, corExpire_of_due hg hd, deliverTimeout_of_query ho,
    qryAttemptFailed_of_lt (s := s.dropSlot k) _ _ left]
  rfl

/-- The step of the query's deadline after its last attempt (R168, R173). -/
theorem exec_corExpire_of_last_attempt (hg : s.slots.get k = some sl) (hd : sl.deadline ≤ s.now)
    (ho : sl.owner = .query) (last : 3 ≤ s.qattempt) : exec (.corExpire k) s = .next { s with
      slots := s.slots.drop k, ret := .nothing, qlasterr := .timeout, qstate := .idle,
      donelog := s.donelog ++ [⟨.query, s.qcode, .cmdFail s.qattempt .timeout⟩] } := by
  rw [exec_corExpire, corExpire_of_due hg hd, deliverTimeout_of_query ho,
    qryAttemptFailed_of_le (s := s.dropSlot k) _ _ last]
  rfl

end QueryBranches

/-! ## The obligations of the slot layer -/

/-- Settles O29: without a key the reply is RawBytes; without a slot it is logged under its key. -/
theorem unexpectedReplyIsOnlyLogged : Obligations.UnexpectedReplyIsOnlyLogged := by
  intro bytes reply s hr hd
  refine ⟨fun hlen => ?_, exec_corRx_of_absent hr hd⟩
  rw [exec_corRx, corRx_of_verified hr hd, corRxReply_of_no_key hlen, frmDec_of_no_key hlen hd,
    body_eq_dropLast_dropLast]
  rfl

/-- Settles O30: the slot goes, and its waiter is the host. -/
theorem replyResolvesHostSlot : Obligations.ReplyResolvesHostSlot := by
  intro bytes reply sl s hr hd hlen hg ho
  refine ⟨_, exec_corRx_of_slot hr hd hlen hg, ?_⟩
  rw [deliverReply_of_host ho]
  exact ⟨s.slots.destroyed_drop _, rfl⟩

/-- Settles O31: the slot goes, and its waiter is the query. -/
theorem replyResolvesQuerySlot : Obligations.ReplyResolvesQuerySlot := by
  intro bytes reply sl s hr hd hlen hg ho
  refine ⟨_, exec_corRx_of_slot hr hd hlen hg, ?_⟩
  rw [deliverReply_of_query ho]
  exact ⟨s.slots.destroyed_drop _, rfl⟩

/-- Settles O33: the attempt fails with E_TIMEOUT, and the attempts left decide. -/
theorem deadlineFailsQueryAttempt : Obligations.DeadlineFailsQueryAttempt := by
  intro k sl s hg hd ho
  split
  next left =>
    exact ⟨_, exec_corExpire_of_attempts_left hg hd ho left, s.slots.destroyed_drop k, rfl⟩
  next last =>
    exact ⟨_, exec_corExpire_of_last_attempt hg hd ho (not_lt.mp last), s.slots.destroyed_drop k, rfl⟩

/-- Settles O36: the first copy leaves the session ready and the key without a slot. -/
theorem secondCopyOfReplyIsUnexpected : Obligations.SecondCopyOfReplyIsUnexpected := by
  intro bytes reply s hr hd hlen
  have still_ready : (corRx Config.params bytes s).sess = .ready :=
    (corRx_emits Config.params bytes s).1.trans hr
  exact ⟨_, exec_corRx bytes s, exec_corRx_of_absent still_ready hd hlen
    (corRx_leaves_no_slot hr hd hlen)⟩

/-- Settles O55: whatever an operation does to the slot table, it does to a key of its own. -/
theorem operationsTouchOnlyTheirOwnSlot : Obligations.OperationsTouchOnlyTheirOwnSlot := by
  intro i s t k h notWrite notRx notExpire notQuery
  rcases exec_slots_cases h with
    hs | ⟨c, b, hi, _, hs⟩ | ⟨hi, _, hs⟩ | ⟨b, _, _, hi, _, _, _, hs, _⟩ | ⟨c, _, hi, _, _, hs, _⟩ <;>
    rw [hs]
  · exact SlotTable.get_put_other (notWrite c b hi).symm _ _
  · exact SlotTable.get_put_other (notQuery hi).symm _ _
  · exact SlotTable.get_drop_other (notRx b hi).symm _
  · have other : k ≠ c := by
      rintro rfl
      exact notExpire hi
    exact SlotTable.get_drop_other other _

/-- Settles O25, by `corWrite_of_accepted`. -/
theorem acceptedWriteCreatesSlot : Obligations.AcceptedWriteCreatesSlot := by
  intro code bytes s hr hn ha
  exact ⟨_, exec_corWrite_of_accepted (corWrite_of_accepted hr hn ha), s.slots.created_put _ _, rfl⟩

/-- Settles O26: the two refusals, in their order. -/
theorem refusedWriteChangesNothing : Obligations.RefusedWriteChangesNothing := by
  intro code bytes s
  exact ⟨fun hr => exec_corWrite_of_error (corWrite_of_not_ready hr),
    fun hr hp => exec_corWrite_of_error (corWrite_of_present hr hp)⟩

/-- Settles O27: the slot that was created is destroyed again, and the error records its key. -/
theorem failedWriteLeavesNoSlot : Obligations.FailedWriteLeavesNoSlot := by
  intro code bytes s hr hn ha
  exact exec_corWrite_of_error (corWrite_of_transport_error hr hn ha)

/-- Settles O28, by `corRx_of_dropped`. -/
theorem badInboundFrameIsDroppedSilently : Obligations.BadInboundFrameIsDroppedSilently := by
  intro bytes s h
  rw [exec_corRx, corRx_of_dropped h]
  rfl

/-- Settles O32: the slot goes, and its waiter is the host. -/
theorem deadlineTimesOutHostSlot : Obligations.DeadlineTimesOutHostSlot := by
  intro k sl s hg hd ho
  rw [exec_corExpire, corExpire_of_due hg hd, deliverTimeout_of_host ho]
  exact ⟨_, rfl, s.slots.destroyed_drop k, rfl⟩

/-- Settles O34: each way in which a timer step is not enabled. -/
theorem disabledTimerStepsChangeNothing : Obligations.DisabledTimerStepsChangeNothing := by
  intro k s
  constructor
  · rintro (hn | ⟨sl, hg, hd⟩)
    · rw [exec_corExpire, corExpire_of_absent hn]
      rfl
    · rw [exec_corExpire, corExpire_of_early hg hd]
      rfl
  · intro h
    rw [exec_qryRetry, qryRetry_of_disabled h]
    rfl

/-! ## The obligations of the query unit -/

/-- Settles O38: the free values are those of the query's number, and QLASTERR's is not E_CRC. -/
theorem queryStartSendsFirstAttempt : Obligations.QueryStartSendsFirstAttempt := by
  intro code frame s hq hr hn ha
  exact ⟨_, _, _, (Config.freeLastErr s.fresh).ne_crc, exec_qryStart_of_accepted hq hr hn ha,
    s.slots.created_put _ _⟩

/-- Settles O39: the refusal, and the two causes for which the first write is not accepted. -/
theorem queryStartWithoutAcceptedWrite : Obligations.QueryStartWithoutAcceptedWrite := by
  intro code frame s hq
  refine ⟨fun hr => ?_, fun hr hp => ?_, fun hr hn ha => ?_⟩
  · rw [exec_qryStart, qryStart_of_not_ready hq hr]
    rfl
  · exact exec_qryStart_of_error hq hr
      (corWrite_of_present (s := s.loadQuery code frame) hr hp) rfl
  · exact exec_qryStart_of_error hq hr
      (corWrite_of_transport_error (s := s.loadQuery code frame) hr hn ha) rfl

/-- Settles O40: every start is a QRY.START, which a busy unit holds as the request it came as. -/
theorem busyQueryUnitHoldsFurtherQueries : Obligations.BusyQueryUnitHoldsFurtherQueries := by
  intro i s hi hq
  obtain ⟨c, f, starts⟩ := exec_of_startsQuery hi
  refine ⟨?_, decodeInvertsEncode i (wellFormed_of_startsQuery hi)⟩
  rw [starts, qryStart_of_busy hq]
  rfl

/-- Settles O41, by `exec_qryRetry_of_accepted`. -/
theorem retrySendsSameFrameAgain : Obligations.RetrySendsSameFrameAgain := by
  intro s hb hd hr hn ha
  exact ⟨_, exec_qryRetry_of_accepted hb hd hr hn ha, s.slots.created_put _ _⟩

/-- The write inside a retry fails, for either cause (R171). -/
theorem corWrite_of_failed_retry {s : State} {cause : Err} (hr : s.sess = .ready)
    (hcause : cause = .busy ∧ s.slots.get s.qcode ≠ none ∨
      cause = .transport ∧ s.slots.get s.qcode = none ∧ s.ans = .error) (n : Nat) :
    corWrite s.qcode s.qframe .query n (s.setAttempt n) =
      ({ s.setAttempt n with
        txlog := if cause = .transport then s.txlog ++ [(s.qframe, .error)] else s.txlog },
        some cause) := by
  rcases hcause with ⟨rfl, hp⟩ | ⟨rfl, hn, ha⟩
  · exact corWrite_of_present (s := s.setAttempt n) hr hp
  · exact corWrite_of_transport_error (s := s.setAttempt n) hr hn ha

/-- Settles O42: a failed attempt, with the attempt counted. -/
theorem failedRetryConsumesAnAttempt : Obligations.FailedRetryConsumesAnAttempt := by
  intro s cause hb hd hr hcause sent
  have failed : exec .qryRetry s = .next ((qryAttemptFailed Config.params cause
      { s.setAttempt (s.qattempt + 1) with txlog := sent }).respond .nothing) := by
    rw [exec_qryRetry, qryRetry_of_due hb hd,
      qryAttempt_of_error (corWrite_of_failed_retry hr hcause (s.qattempt + 1))]
  refine ⟨fun left => ?_, fun last => ?_⟩
  · rw [failed, qryAttemptFailed_of_lt _ _ left, ← hb]
    rfl
  · rw [failed, qryAttemptFailed_of_le _ _ last.ge, ← last]
    rfl

/-! ## The obligations of the session -/

theorem exec_sesConnect_of_not_down {s : State} (h : s.sess ≠ .down) (a : Address) :
    exec (.sesConnect a) s = .next { s with ret := .err .notReady } := by
  simp only [exec, execSesConnect, if_neg h]
  rfl

theorem exec_sesSubscribe_of_not_connected {s : State} (h : s.sess = .down ∨ s.sess = .failed) :
    exec .sesSubscribe s = .next { s with ret := .err .notReady } := by
  rcases h with h | h <;> simp only [exec, execSesSubscribe, h, State.raise, State.respond]

/-- Settles O21: the adapter's two answers in S_DOWN, and the refusal elsewhere. -/
theorem connectFollowsAdapterAnswerOnce : Obligations.ConnectFollowsAdapterAnswerOnce := by
  intro a s
  refine ⟨fun hd ha => ?_, fun hd ha => ?_, fun h => exec_sesConnect_of_not_down h a⟩
  · simp only [exec, execSesConnect, hd, ha, State.emitConnect]
    rfl
  · simp only [exec, execSesConnect, hd, ha, State.emitConnect]
    rfl

/-- Settles O22: one clause for each arm of R155. -/
theorem subscribeMakesSessionReady : Obligations.SubscribeMakesSessionReady := by
  intro s
  refine ⟨fun h => ?_, fun h => ?_, exec_sesSubscribe_of_not_connected⟩
  · simp only [exec, execSesSubscribe, h]
    rfl
  · simp only [exec, execSesSubscribe, h, State.respond]

/-- Settles O24: each operation's own refusal outside S_READY; the pure ones do not read SESS. -/
theorem failedSessionRefusesOperations : Obligations.FailedSessionRefusesOperations := by
  intro s failed
  have notReady : s.sess ≠ .ready := by simp [failed]
  have notDown : s.sess ≠ .down := by simp [failed]
  refine ⟨exec_sesConnect_of_not_down notDown, exec_sesSubscribe_of_not_connected (.inr failed),
    fun c b => (refusedWriteChangesNothing c b s).1 notReady, fun idle => ?_,
    fun b => badInboundFrameIsDroppedSilently b s (.inl notReady), fun _ => rfl, fun _ => rfl,
    fun _ _ => rfl, fun f => ?_⟩
  · have refused {i : Instr} {c : Key} {f : ByteString}
        (starts : exec i s = .next (qryStart Config.params i c f s)) :
        exec i s = .next { s with
          donelog := s.donelog ++ [⟨.query, c, .notReady⟩], ret := .nothing } := by
      rw [starts, qryStart_of_not_ready idle notReady]
      rfl
    exact ⟨fun _ _ => refused rfl, refused rfl, refused rfl, fun _ => refused rfl,
      fun _ => refused rfl, fun _ => refused rfl, fun _ => refused rfl, fun _ => refused rfl,
      refused rfl, refused rfl, refused rfl⟩
  · by_cases verified : crcVfy f = true
    · obtain ⟨b, rfl⟩ := crcVfy_iff.mp verified
      exact ⟨_, exec_frmDec_append_crcGen b⟩
    · exact ⟨_, exec_frmDec_of_crcVfy_eq_false (Bool.eq_false_iff.mpr verified)⟩

end Sys2Proof.Machine

namespace Sys2Proof.Machine

/-! ## A query that nothing answers, turn by turn (R173, R176) -/

section Unanswered

/-- The state in which a turn's operation runs (R60): the turn has begun, its request has left the port. -/
def State.inTurn (s : State) (u : Turn) (rest : List Turn) (rs : List Request) : State :=
  { s with
    now := s.now + u.dt, ans := u.ans, env := ({ s.env with turns := rest }).setPort u.agent rs }

theorem step_of_encoded {s : State} {u : Turn} {rest : List Turn} {i : Instr} {rs : List Request}
    (hturn : s.env.turns = u :: rest) (hport : s.env.port u.agent = encode i :: rs)
    (hwf : i.wellFormed = true) (hagent : u.agent ∈ i.agents) :
    step s = exec i (s.inTurn u rest rs) :=
  stepRunsPresentedOperation s u rest (encode i) rs i hturn hport (decodeInvertsEncode i hwf) hwf hagent

theorem core_run_succ {s t : State} (h : step s = .next t) (n : Nat) :
    Sys2Proof.core.run (n + 1) s = Sys2Proof.core.run n t := by
  have hstep : Sys2Proof.core.step s = .next t := h
  simp only [Host.Core.run, hstep]

/-- In `t` a query of `c` and `f`, started in `s`, has sent `n` copies of its frame and been answered by
nothing; the time is `now`, and `turns` and `timer` are still to come. -/
structure Unanswered (s : State) (c : Key) (f : ByteString) (n now : Nat) (turns : List Turn)
    (timer : List Request) (t : State) : Prop where
  sess : t.sess = .ready
  qcode : t.qcode = c
  qframe : t.qframe = f
  qattempt : t.qattempt = n
  txlog : t.txlog = s.txlog ++ List.replicate n (f, .ok)
  donelog : t.donelog = s.donelog
  evlog : t.evlog = s.evlog
  clock : t.now = now
  schedule : t.env.turns = turns
  port : t.env.timer = timer

/-- The unit waits for the reply to copy number `n`, sent at `now`. -/
structure AwaitsReply (s : State) (c : Key) (f : ByteString) (n now : Nat) (turns : List Turn)
    (timer : List Request) (t : State) : Prop extends Unanswered s c f n now turns timer t where
  slots : t.slots = s.slots.put c ⟨c, n, now + 1000, .query⟩

/-- Copy number `n` was given up at `now`, and the unit backs off. -/
structure BacksOff (s : State) (c : Key) (f : ByteString) (n now : Nat) (turns : List Turn)
    (timer : List Request) (t : State) : Prop extends Unanswered s c f n now turns timer t where
  slots : t.slots = s.slots
  qstate : t.qstate = .backoff
  due : t.qbackoffUntil = now + Config.params.backoffMs

variable {s t : State} {c : Key} {f : ByteString} {n now d : Nat} {a : Answer} {turns : List Turn}
  {timer : List Request}

/-- The first turn: the query starts and its first copy is accepted (R170, R171). -/
theorem awaitsReply_of_start {host : List Request} (hr : s.sess = .ready) (hq : s.qstate = .idle)
    (free : s.slots.get c = none) (hturns : s.env.turns = ⟨.host, d, .ok⟩ :: turns)
    (hhost : s.env.host = encode (.qryStart c f) :: host) (htimer : s.env.timer = timer) :
    ∃ t, step s = .next t ∧ AwaitsReply s c f 1 (s.now + d) turns timer t := by
  let s' := s.inTurn ⟨.host, d, .ok⟩ turns host
  have started := exec_qryStart_of_accepted (s := s') (frame := f) hq hr free rfl
  refine ⟨_, (step_of_encoded hturns hhost rfl (List.mem_singleton_self _)).trans started, ?_⟩
  exact ⟨⟨hr, rfl, rfl, rfl, rfl, rfl, rfl, rfl, rfl, htimer⟩, rfl⟩

/-- While the unit waits, the slot of its code is there, with the deadline of the last copy. -/
theorem AwaitsReply.slot (h : AwaitsReply s c f n now turns timer t) :
    t.slots.get c = some ⟨c, n, now + 1000, .query⟩ := by
  rw [h.slots, SlotTable.get_put_same]

/-- A deadline waited for, with attempts left: the slot is gone again, and the unit backs off (R173). -/
theorem AwaitsReply.backsOff_of_expire (free : s.slots.get c = none)
    (h : AwaitsReply s c f n now (⟨.timer, d, a⟩ :: turns) (encode (.corExpire c) :: timer) t)
    (left : n < 3) (waited : 1000 ≤ d) :
    ∃ t', step t = .next t' ∧ BacksOff s c f n (now + d) turns timer t' := by
  let t₁ := t.inTurn ⟨.timer, d, a⟩ turns timer
  have htime : t₁.now = now + d := congrArg (· + d) h.clock
  have expired := exec_corExpire_of_attempts_left (s := t₁) h.slot (by dsimp only; omega) rfl
    (h.qattempt.trans_lt left)
  refine ⟨_, (step_of_encoded h.schedule h.port rfl (List.mem_singleton_self _)).trans expired, ?_⟩
  exact {
    h.toUnanswered with
    clock := htime
    schedule := rfl
    port := rfl
    slots := (congrArg (SlotTable.drop · c) h.slots).trans (SlotTable.drop_put_of_absent free _)
    qstate := rfl
    due := congrArg (· + _) htime }

/-- A backoff waited for: the next copy is sent (R174). -/
theorem BacksOff.awaitsReply_of_retry (free : s.slots.get c = none)
    (h : BacksOff s c f n now (⟨.timer, d, .ok⟩ :: turns) (encode .qryRetry :: timer) t)
    (waited : Config.params.backoffMs ≤ d) :
    ∃ t', step t = .next t' ∧ AwaitsReply s c f (n + 1) (now + d) turns timer t' := by
  let t₁ := t.inTurn ⟨.timer, d, .ok⟩ turns timer
  have htime : t₁.now = now + d := congrArg (· + d) h.clock
  have due : t₁.qbackoffUntil ≤ t₁.now := by
    rw [htime]
    exact h.due.trans_le (Nat.add_le_add_left waited now)
  have absent : t₁.slots.get t₁.qcode = none := by
    rw [← free, ← h.slots, ← h.qcode]
    rfl
  have sent := exec_qryRetry_of_accepted (s := t₁) h.qstate due h.sess absent rfl
  refine ⟨_, (step_of_encoded h.schedule h.port rfl (List.mem_singleton_self _)).trans sent, ?_⟩
  have copies : t.txlog ++ [(t.qframe, .ok)] = s.txlog ++ List.replicate (n + 1) (f, .ok) := by
    rw [h.txlog, h.qframe, List.append_assoc, List.replicate_succ']
  have slots : t.slots.put t.qcode ⟨t.qcode, t.qattempt + 1, t₁.now + 1000, .query⟩ =
      s.slots.put c ⟨c, n + 1, now + d + 1000, .query⟩ := by
    rw [h.slots, h.qcode, h.qattempt, htime]
  exact {
    h.toUnanswered with
    qattempt := congrArg (· + 1) h.qattempt
    txlog := copies
    clock := htime
    schedule := rfl
    port := rfl
    slots := slots }

/-- The deadline of the third copy waited for: the query fails, and its slot is gone (R173). -/
theorem AwaitsReply.fails_of_expire (free : s.slots.get c = none)
    (h : AwaitsReply s c f 3 now (⟨.timer, d, a⟩ :: turns) (encode (.corExpire c) :: timer) t)
    (waited : 1000 ≤ d) :
    ∃ t', step t = .next t' ∧ t'.txlog = s.txlog ++ [(f, .ok), (f, .ok), (f, .ok)] ∧
      t'.donelog = s.donelog ++ [⟨.query, c, .cmdFail 3 .timeout⟩] ∧ t'.slots = s.slots ∧
      t'.qstate = .idle ∧ t'.sess = .ready ∧ t'.evlog = s.evlog ∧ t'.now = now + d := by
  let t₁ := t.inTurn ⟨.timer, d, a⟩ turns timer
  have htime : t₁.now = now + d := congrArg (· + d) h.clock
  have expired := exec_corExpire_of_last_attempt (s := t₁) h.slot (by dsimp only; omega) rfl
    h.qattempt.ge
  have failed : t.donelog ++ [⟨.query, t.qcode, .cmdFail t.qattempt .timeout⟩] =
      s.donelog ++ [⟨.query, c, .cmdFail 3 .timeout⟩] := by
    rw [h.donelog, h.qcode, h.qattempt]
  exact ⟨_, (step_of_encoded h.schedule h.port rfl (List.mem_singleton_self _)).trans expired, h.txlog,
    failed, (congrArg (SlotTable.drop · c) h.slots).trans (SlotTable.drop_put_of_absent free _), rfl,
    h.sess, h.evlog, htime⟩

end Unanswered

/-- Settles O45: the start, two deadlines each followed by a retry, and the last deadline. -/
theorem unansweredQueryFailsAfterThreeAttempts : Obligations.UnansweredQueryFailsAfterThreeAttempts := by
  intro c f d0 d1 d2 d3 d4 d5 a1 a3 a5 s hr hq free h1 h3 h5 h2 h4 hturns hhost htimer
  obtain ⟨t1, e1, first⟩ := awaitsReply_of_start hr hq free hturns hhost htimer
  obtain ⟨t2, e2, firstLost⟩ := first.backsOff_of_expire free (by decide) h1
  obtain ⟨t3, e3, second⟩ := firstLost.awaitsReply_of_retry free h2
  obtain ⟨t4, e4, secondLost⟩ := second.backsOff_of_expire free (by decide) h3
  obtain ⟨t5, e5, third⟩ := secondLost.awaitsReply_of_retry free h4
  obtain ⟨t6, e6, htx, hdone, hslots, hidle, hsess, hev, hnow⟩ := third.fails_of_expire free h5
  refine ⟨t6, ?_, htx, hdone, hslots, hidle, hsess, hev, hnow, by omega⟩
  rw [core_run_succ e1, core_run_succ e2, core_run_succ e3, core_run_succ e4, core_run_succ e5,
    core_run_succ e6]
  rfl

end Sys2Proof.Machine

namespace Sys2Proof.Machine

/-! ## The clamp of the setters (R192, R193) -/

theorem clamp_of_lt {v lo : Int} (h : v < lo) (hi : Int) : clamp v lo hi = lo := if_pos h

theorem clamp_of_gt {v lo hi : Int} (hlo : lo ≤ v) (hhi : hi < v) : clamp v lo hi = hi := by
  rw [clamp, if_neg (not_lt.mpr hlo), if_pos hhi]

theorem clamp_of_mem {v lo hi : Int} (hlo : lo ≤ v) (hhi : v ≤ hi) : clamp v lo hi = v := by
  rw [clamp, if_neg (not_lt.mpr hlo), if_neg (not_lt.mpr hhi)]

/-- Settles O48: each branch of the clamp. -/
theorem clampReturnsBoundOrValue : Obligations.ClampReturnsBoundOrValue :=
  fun _ _ hi => ⟨(clamp_of_lt · hi), clamp_of_gt, clamp_of_mem⟩

/-- Where the bounds are in order, the clamp is the nearest value between them. -/
theorem clamp_eq_min_max {lo hi : Int} (h : lo ≤ hi) (v : Int) :
    clamp v lo hi = min (max v lo) hi := by
  rcases lt_or_ge v lo with below | hlo
  · rw [clamp_of_lt below, max_eq_right below.le, min_eq_left h]
  · rw [max_eq_left hlo]
    rcases lt_or_ge hi v with above | hhi
    · rw [clamp_of_gt hlo above, min_eq_right above.le]
    · rw [clamp_of_mem hlo hhi, min_eq_left hhi]

theorem clamp_of_le {v lo hi : Int} (h : lo ≤ hi) (below : v ≤ lo) :
    clamp v lo hi = clamp lo lo hi := by
  rw [clamp_eq_min_max h, clamp_eq_min_max h, max_eq_right below, max_self]

theorem clamp_of_ge {v lo hi : Int} (h : lo ≤ hi) (above : hi ≤ v) :
    clamp v lo hi = clamp hi lo hi := by
  rw [clamp_eq_min_max h, clamp_eq_min_max h, max_eq_left (h.trans above), max_eq_left h,
    min_eq_right above, min_self]

/-- A setter's clamp lies in its range, so as a natural number it is the same value. -/
theorem clamp_toNat (v : Int) (top : Nat) :
    ((clamp v 0 top).toNat : Int) = clamp v 0 top ∧ (clamp v 0 top).toNat ≤ top := by
  have ordered : (0 : Int) ≤ top := Int.natCast_nonneg top
  have inRange : 0 ≤ clamp v 0 top ∧ clamp v 0 top ≤ top := by
    rw [clamp_eq_min_max ordered]
    exact ⟨le_min (le_max_right v 0) ordered, min_le_right _ _⟩
  exact ⟨Int.toNat_of_nonneg inRange.1, Int.toNat_le.mpr inRange.2⟩

theorem clampOperand_eq (v : Int) (hi scale : Nat) :
    clampOperand v hi scale = (min (max v 0) (hi * scale : Nat)).toNat := by
  rw [clampOperand, clamp_eq_min_max (Int.natCast_nonneg _)]

/-! ## What a builder sends (R190) -/

section Expansion
variable {s : State}

/-- An idle unit does not read which operation started the query: only a hold keeps that. -/
theorem next_qryStart_of_idle (hq : s.qstate = .idle) (i : Instr) (code : Key) (frame : ByteString) :
    .next (qryStart Config.params i code frame s) = exec (.qryStart code frame) s := by
  rw [exec_qryStart]
  by_cases hr : s.sess = .ready
  · rw [qryStart_of_ready hq hr, qryStart_of_ready hq hr]
  · rw [qryStart_of_not_ready hq hr, qryStart_of_not_ready hq hr]

theorem sendPlain_of_idle (hq : s.qstate = .idle) (i : Instr) (p : PlainTemplate) :
    sendPlain Config.params Config.maxFrameLen i p s =
      exec (.qryStart p.code (frmEnc p.code p.payload)) s :=
  next_qryStart_of_idle hq i p.code (frmEnc p.code p.payload)

theorem sendSetter_of_idle {hi : Nat} (hq : s.qstate = .idle) (i : Instr) (p : SetterTemplate hi)
    (v : Int) : sendSetter Config.params Config.maxFrameLen i p v s =
      exec (.qryStart p.code (frmEnc p.code (p.payload (clampOperand v hi p.scale)))) s :=
  next_qryStart_of_idle hq i p.code (frmEnc p.code (p.payload (clampOperand v hi p.scale)))

end Expansion

/-- Settles O47: a plain builder by `sendPlain_of_idle`, a setter by `sendSetter_of_idle`. -/
theorem builderExpandsToQueryStart : Obligations.BuilderExpandsToQueryStart := by
  intro s hq
  have setter {hi : Nat} (i : Instr) (p : SetterTemplate hi) (v : Int) :
      sendSetter Config.params Config.maxFrameLen i p v s = exec (.qryStart p.code
        (frmEnc p.code (p.payload (min (max v 0) (hi * p.scale : Nat)).toNat))) s := by
    rw [sendSetter_of_idle hq, clampOperand_eq]
  exact ⟨sendPlain_of_idle hq _ _, sendPlain_of_idle hq _ _, fun v => setter _ _ v,
    fun v => setter _ _ v, fun v => setter _ _ v, fun v => setter _ _ v, fun v => setter _ _ v,
    sendPlain_of_idle hq _ _, sendPlain_of_idle hq _ _, sendPlain_of_idle hq _ _⟩

/-- Settles O46: a builder is QRY.START of its frame (O47), and that sends the first attempt (O38). -/
theorem acceptedBuilderSendsItsFrame : Obligations.AcceptedBuilderSendsItsFrame := by
  intro s hq hr ha P sends clamped
  have accepted {i : Instr} {code : Key} {payload : ByteString}
      (expands : exec i s = exec (.qryStart code (frmEnc code payload)) s) : sends i code payload := by
    intro free
    rw [expands]
    exact queryStartSendsFirstAttempt code (frmEnc code payload) s hq hr free ha
  obtain ⟨status, limits, setv, seti, setbl, setbz, setto, on, off, restart⟩ :=
    builderExpandsToQueryStart s hq
  exact ⟨accepted status, accepted limits, fun v => accepted (setv v), fun v => accepted (seti v),
    fun v => accepted (setbl v), fun v => accepted (setbz v), fun v => accepted (setto v),
    accepted on, accepted off, accepted restart⟩

/-- Different clamps give different payloads: the template is injective on its range (R191 (a)). -/
theorem payload_ne_of_clamp_ne {hi : Nat} (p : SetterTemplate hi) {v1 v2 : Int}
    (h : clamp v1 0 (hi * p.scale : Nat) ≠ clamp v2 0 (hi * p.scale : Nat)) :
    p.payload (clamp v1 0 (hi * p.scale : Nat)).toNat ≠
      p.payload (clamp v2 0 (hi * p.scale : Nat)).toNat := by
  obtain ⟨value1, inRange1⟩ := clamp_toNat v1 (hi * p.scale)
  obtain ⟨value2, inRange2⟩ := clamp_toNat v2 (hi * p.scale)
  intro same
  have equal := p.payload_inj _ _ inRange1 inRange2 same
  exact h (value1.symm.trans ((congrArg Nat.cast equal).trans value2))

/-- Settles O49: an idle unit sees of the operand only its clamp (`sendSetter_of_idle`). -/
theorem settersDependOnlyOnClampedOperand : Obligations.SettersDependOnlyOnClampedOperand := by
  intro s v1 v2 hq P law
  have setter {hi : Nat} (i : Int → Instr) (p : SetterTemplate hi)
      (sends : ∀ v, exec (i v) s = sendSetter Config.params Config.maxFrameLen (i v) p v s) :
      law i hi p.scale p.payload := by
    have ordered : (0 : Int) ≤ (hi * p.scale : Nat) := Int.natCast_nonneg _
    have same {v w : Int} (h : clamp v 0 (hi * p.scale : Nat) = clamp w 0 (hi * p.scale : Nat)) :
        exec (i v) s = exec (i w) s := by
      rw [sends, sends, sendSetter_of_idle hq, sendSetter_of_idle hq, clampOperand, clampOperand, h]
    exact ⟨same, fun below => same (clamp_of_le ordered below),
      fun above => same (clamp_of_ge ordered above), payload_ne_of_clamp_ne p⟩
  exact ⟨setter .cmdSetv P.setv fun _ => rfl, setter .cmdSeti P.seti fun _ => rfl,
    setter .cmdSetbl P.setbl fun _ => rfl, setter .cmdSetbz P.setbz fun _ => rfl,
    setter .cmdSetto P.setto fun _ => rfl⟩

/-! ## How many frames a query sends (R205, R177 (d)) -/

/-- A frame begins with the key under which its reply is awaited (R126, R163). -/
theorem be16At_frmEnc (code : Key) (payload : ByteString) : be16At (frmEnc code payload) 0 = code := by
  have bytes : be16 code = [BitVec.ofNat 8 (code.toNat / 256), BitVec.ofNat 8 code.toNat] :=
    be16_eq_ofNat code
  have high : byteAt (frmEnc code payload) 0 = BitVec.ofNat 8 (code.toNat / 256) := by
    rw [frmEnc, bytes]
    rfl
  have low : byteAt (frmEnc code payload) 1 = BitVec.ofNat 8 code.toNat := by
    rw [frmEnc, bytes]
    rfl
  apply BitVec.eq_of_toNat_eq
  rw [be16At_toNat, high, low, BitVec.toNat_ofNat, BitVec.toNat_ofNat]
  omega

section Copies
variable {s t : State} {i : Instr}

/-- A builder is a query start of a frame that FRM.ENC encodes with the query's code (R190). -/
theorem exec_of_builder (h : startsQuery i = true) (builder : ∀ c f, i ≠ .qryStart c f) :
    ∃ code payload, ∀ s,
      exec i s = .next (qryStart Config.params i code (frmEnc code payload) s) := by
  cases i with
  | qryStart c f => exact absurd rfl (builder c f)
  | cmdStatus | cmdLimits | cmdSetv _ | cmdSeti _ | cmdSetbl _ | cmdSetbz _ | cmdSetto _ | cmdOn
  | cmdOff | cmdRestart => exact ⟨_, _, fun _ => rfl⟩
  | _ => cases h

/-- From `s` to `t` the running query stays what it is, and its frame was handed over at most once; it
was not only where the write is refused (R157, R171). -/
structure State.Attempted (s t : State) : Prop where
  qcode : t.qcode = s.qcode
  qframe : t.qframe = s.qframe
  qattempt : t.qattempt = s.qattempt
  sends : (t.txlog = s.txlog ∧ (s.sess ≠ .ready ∨ s.slots.get s.qcode ≠ none)) ∨
    ∃ a, t.txlog = s.txlog ++ [(s.qframe, a)]

theorem qryAttemptFailed_keeps_query (P : Params) (cause : Err) (s : State) :
    (qryAttemptFailed P cause s).qcode = s.qcode ∧ (qryAttemptFailed P cause s).qframe = s.qframe ∧
      (qryAttemptFailed P cause s).qattempt = s.qattempt ∧
      (qryAttemptFailed P cause s).txlog = s.txlog := by
  rcases qryAttemptFailed_cases P cause s with ⟨_, e⟩ | ⟨_, e⟩ <;> rw [e] <;>
    exact ⟨rfl, rfl, rfl, rfl⟩

theorem qryAttempt_attempted (P : Params) (s : State) : s.Attempted (qryAttempt P s) := by
  rcases qryAttempt_cases P s with ⟨_, _, _, e⟩ | ⟨_, _, _, e⟩ | ⟨_, hp, e⟩ | ⟨hr, e⟩ <;> rw [e]
  · exact ⟨rfl, rfl, rfl, .inr ⟨_, rfl⟩⟩
  · obtain ⟨hcode, hframe, hattempt, htx⟩ :=
      qryAttemptFailed_keeps_query P .transport (s.emitTx s.qframe)
    exact ⟨hcode, hframe, hattempt, .inr ⟨_, htx⟩⟩
  · obtain ⟨hcode, hframe, hattempt, htx⟩ := qryAttemptFailed_keeps_query P .busy s
    exact ⟨hcode, hframe, hattempt, .inl ⟨htx, .inr (Option.isSome_iff_ne_none.mp hp)⟩⟩
  · obtain ⟨hcode, hframe, hattempt, htx⟩ := qryAttemptFailed_keeps_query P .notReady s
    exact ⟨hcode, hframe, hattempt, .inl ⟨htx, .inl hr⟩⟩

/-! ### The bound of three -/

theorem State.copiesLeft_of_idle (h : s.qstate = .idle) : s.copiesLeft = 0 := if_pos h

theorem State.copiesLeft_of_busy (h : s.qstate ≠ .idle) : s.copiesLeft = 3 - s.qattempt := if_neg h

theorem State.copiesLeft_le (s : State) : s.copiesLeft ≤ 3 - s.qattempt := by
  by_cases h : s.qstate = .idle
  · exact (copiesLeft_of_idle h).trans_le (Nat.zero_le _)
  · exact (copiesLeft_of_busy h).le

/-- What an operation may send and leave to be sent: three copies where it starts a query. -/
def State.copiesAllowed (i : Instr) (s : State) : Nat :=
  if startsQuery i = true ∧ s.qstate = .idle then 3 else s.copiesLeft

theorem State.copiesLeft_le_copiesAllowed (i : Instr) (s : State) : s.copiesLeft ≤ s.copiesAllowed i := by
  rw [copiesAllowed]
  split
  · exact s.copiesLeft_le.trans (Nat.sub_le _ _)
  · exact le_rfl

/-- From `s` to `t` the query unit sends copies of its own frame only, which with those that are left are
at most `n`, and a query that was running stays what it is. -/
def State.SendsWithin (n : Nat) (s t : State) : Prop :=
  ∃ sent : List (ByteString × Answer),
    t.txlog = s.txlog ++ sent ∧ (∀ e ∈ sent, e.1 = t.qframe) ∧ sent.length + t.copiesLeft ≤ n ∧
    (s.qstate ≠ .idle → t.qframe = s.qframe ∧ t.qcode = s.qcode)

/-- From `s` to `t` nothing is sent, and the query unit gains no copy to send. -/
structure State.Silent (s t : State) : Prop where
  txlog : t.txlog = s.txlog
  qframe : t.qframe = s.qframe
  qcode : t.qcode = s.qcode
  copies : t.copiesLeft ≤ s.copiesLeft

theorem State.Silent.refl (s : State) : s.Silent s := ⟨rfl, rfl, rfl, le_rfl⟩

theorem State.Silent.sendsWithin (h : s.Silent t) (i : Instr) : s.SendsWithin (s.copiesAllowed i) t :=
  ⟨[], h.txlog.trans (List.append_nil _).symm, nofun,
    (Nat.zero_add _).trans_le (h.copies.trans (s.copiesLeft_le_copiesAllowed i)),
    fun _ => ⟨h.qframe, h.qcode⟩⟩

/-- An attempt sends one copy at most, and leaves those of the later attempts. -/
theorem State.Attempted.sendsWithin (h : s.Attempted t) {n : Nat}
    (budget : 1 + (3 - s.qattempt) ≤ n) : s.SendsWithin n t := by
  have left : t.copiesLeft ≤ 3 - s.qattempt := h.qattempt ▸ t.copiesLeft_le
  rcases h.sends with ⟨htx, _⟩ | ⟨a, htx⟩
  · exact ⟨[], htx.trans (List.append_nil _).symm, nofun, by rw [List.length_nil]; omega,
      fun _ => ⟨h.qframe, h.qcode⟩⟩
  · exact ⟨[(s.qframe, a)], htx, by simp [h.qframe], by rw [List.length_singleton]; omega,
      fun _ => ⟨h.qframe, h.qcode⟩⟩

theorem qryStart_sendsWithin (hi : startsQuery i = true) (code : Key) (frame : ByteString) (s : State) :
    s.SendsWithin (s.copiesAllowed i) (qryStart Config.params i code frame s) := by
  rcases qryStart_cases Config.params i code frame s with ⟨_, e⟩ | ⟨_, _, e⟩ | ⟨hq, _, e⟩ <;> rw [e]
  · exact State.Silent.sendsWithin ⟨rfl, rfl, rfl, le_rfl⟩ i
  · exact State.Silent.sendsWithin ⟨rfl, rfl, rfl, le_rfl⟩ i
  · have three : s.copiesAllowed i = 3 := if_pos ⟨hi, hq⟩
    obtain ⟨sent, htx, hown, hbound, _⟩ :=
      (qryAttempt_attempted Config.params (s.loadQuery code frame)).sendsWithin
        (by decide : 1 + (3 - 1) ≤ 3)
    exact ⟨sent, htx, hown, three.symm ▸ hbound, fun busy => absurd hq busy⟩

theorem qryRetry_sendsWithin (h : s.Inv) :
    s.SendsWithin (s.copiesAllowed .qryRetry) (qryRetry Config.params s) := by
  rcases qryRetry_cases Config.params s with e | ⟨hb, _, e⟩ <;> rw [e]
  · exact (State.Silent.refl s).sendsWithin _
  · have notLast : s.qattempt < 3 := (h.backoff_range hb).1
    have left : s.copiesAllowed .qryRetry = 3 - s.qattempt :=
      (if_neg nofun).trans (State.copiesLeft_of_busy (by simp [hb]))
    exact (qryAttempt_attempted Config.params (s.setAttempt (s.qattempt + 1))).sendsWithin
      (by rw [left, State.setAttempt_qattempt]; omega)

theorem corRx_silent (bytes : ByteString) (s : State) : s.Silent (corRx Config.params bytes s) := by
  rcases corRx_cases Config.params bytes s with e | ⟨reply, _, _, e⟩ <;> rw [e]
  · exact .refl s
  · rcases corRxReply_cases bytes reply s with ⟨_, e⟩ | ⟨_, _, e⟩ | ⟨sl, _, _, e⟩ <;> rw [e]
    · exact ⟨rfl, rfl, rfl, le_rfl⟩
    · exact ⟨rfl, rfl, rfl, le_rfl⟩
    · cases ho : sl.owner with
      | host =>
        rw [deliverReply_of_host ho]
        exact ⟨rfl, rfl, rfl, le_rfl⟩
      | query =>
        rw [deliverReply_of_query ho]
        exact ⟨rfl, rfl, rfl, Nat.zero_le _⟩

/-- A timed-out attempt was counted when it was sent, so what is left stays. -/
theorem corExpire_silent (h : s.Inv) (k : Key) : s.Silent (corExpire Config.params k s) := by
  rcases corExpire_cases Config.params k s with e | ⟨sl, hg, _, e⟩ <;> rw [e]
  · exact .refl s
  · cases ho : sl.owner with
    | host =>
      rw [deliverTimeout_of_host ho]
      exact ⟨rfl, rfl, rfl, le_rfl⟩
    | query =>
      obtain ⟨_, waits, _⟩ := (h.slotOk hg).query ho
      rw [deliverTimeout_of_query ho]
      obtain ⟨hcode, hframe, hattempt, htx⟩ :=
        qryAttemptFailed_keeps_query Config.params .timeout (s.dropSlot k)
      refine ⟨htx, hframe, hcode, ?_⟩
      rw [State.copiesLeft_of_busy (s := s) (by simp [waits])]
      exact (State.copiesLeft_le _).trans (by rw [hattempt, State.dropSlot_qattempt])

theorem exec_sendsWithin (h : s.Inv) (notWrite : ∀ c b, i ≠ .corWrite c b) (he : exec i s = .next t) :
    s.SendsWithin (s.copiesAllowed i) t := by
  rcases exec_next_cases he with
    ⟨_, _, r, rfl⟩ | ⟨a, _, _, hans⟩ | ⟨_, _, rfl⟩ | ⟨c, b, hi, _⟩ | ⟨c, f, hi, rfl⟩ | ⟨b, _, rfl⟩ |
    ⟨k, _, rfl⟩ | ⟨rfl, rfl⟩
  · exact State.Silent.sendsWithin ⟨rfl, rfl, rfl, le_rfl⟩ i
  · rcases hans with ⟨_, rfl⟩ | ⟨_, rfl⟩ <;>
      exact State.Silent.sendsWithin ⟨rfl, rfl, rfl, le_rfl⟩ i
  · exact State.Silent.sendsWithin ⟨rfl, rfl, rfl, le_rfl⟩ i
  · exact absurd hi (notWrite c b)
  · exact qryStart_sendsWithin hi c f s
  · exact (corRx_silent b s).sendsWithin i
  · exact (corExpire_silent h k).sendsWithin i
  · exact qryRetry_sendsWithin h

end Copies

/-- Settles O50: a builder's frame is FRM.ENC's of its code; the bound is `exec_sendsWithin`. -/
theorem buildersSendVerifiedFramesAtMostThrice : Obligations.BuildersSendVerifiedFramesAtMostThrice := by
  refine ⟨fun i s t hi builder he => ?_, fun i s t h notWrite he => exec_sendsWithin h notWrite he⟩
  obtain ⟨code, payload, starts⟩ := exec_of_builder hi builder
  cases next_inj ((starts s).symm.trans he)
  rcases qryStart_cases Config.params i code (frmEnc code payload) s with
    ⟨hq, e⟩ | ⟨_, hr, e⟩ | ⟨_, _, e⟩ <;> rw [e]
  · exact .inl ⟨rfl, .inl hq⟩
  · exact .inl ⟨rfl, .inr (.inl hr)⟩
  · have attempt := qryAttempt_attempted Config.params (s.loadQuery code (frmEnc code payload))
    rcases attempt.sends with ⟨silent, hr | pending⟩ | ⟨a, sent⟩
    · exact .inl ⟨silent, .inr (.inl hr)⟩
    · exact .inl ⟨silent, .inr (.inr (attempt.qcode.symm ▸ pending))⟩
    · exact .inr ⟨_, a, sent, crcVfy_append_crcGen _,
        (be16At_frmEnc code payload).trans attempt.qcode.symm, attempt.qframe⟩

end Sys2Proof.Machine

namespace Sys2Proof.Machine

/-! ## What no order and no agent can break (R220, R230) -/

/-- After COR.EXPIRE at or after the deadline the key has no slot, whoever its waiter was (R168). -/
theorem corExpire_leaves_no_slot {P : Params} {k : Key} {sl : Slot} {s : State}
    (hg : s.slots.get k = some sl) (hd : sl.deadline ≤ s.now) :
    (corExpire P k s).slots.get k = none := by
  obtain ⟨hslots, _⟩ := deliverTimeout_delivers P sl k (s.dropSlot k)
  rw [corExpire_of_due hg hd, hslots, State.dropSlot_slots, SlotTable.get_drop_same]

/-- Settles O35: whichever step comes first leaves the key without a slot, so the other finds none. -/
theorem replyAndDeadlineAreSafeInEitherOrder : Obligations.ReplyAndDeadlineAreSafeInEitherOrder := by
  intro bytes reply sl s hr hd hlen hg due
  constructor
  · have resolved : (corRx Config.params bytes s).slots.get (be16At bytes 0) = none :=
      corRx_leaves_no_slot hr hd hlen
    exact ⟨_, exec_corRx bytes s, (disabledTimerStepsChangeNothing _ _).1 (.inl resolved)⟩
  · have still_ready : (corExpire Config.params (be16At bytes 0) s).sess = .ready :=
      (corExpire_emits Config.params _ s).1.trans hr
    exact ⟨_, exec_corExpire _ s,
      exec_corRx_of_absent still_ready hd hlen (corExpire_leaves_no_slot hg due)⟩

/-- A request of an agent that may not cause its operation is refused (R230; log 11): the other half of
`runRequest_of_mem_agents`. -/
theorem runRequest_of_not_mem_agents {a : Agent} {r : Request} {i : Instr} (hdecode : decode r = .ok i)
    (hagent : a ∉ i.agents) (s : State) : runRequest a r s = .refused .wrongAgent := by
  rcases runRequest_cases a r s with ⟨hbad, _⟩ | ⟨_, _, _, hrun⟩ | ⟨j, hj, hmem, _⟩
  · cases hdecode.symm.trans hbad
  · exact hrun
  · cases hdecode.symm.trans hj
    exact absurd (by simpa using hmem) hagent

/-- A query is started by the host alone (R88, agent column). -/
theorem agents_of_startsQuery {i : Instr} (h : startsQuery i = true) : i.agents = [.host] := by
  cases i with
  | qryStart _ _ | cmdStatus | cmdLimits | cmdSetv _ | cmdSeti _ | cmdSetbl _ | cmdSetbz _ | cmdSetto _
  | cmdOn | cmdOff | cmdRestart => rfl
  | _ => cases h

/-- Of all that an operation can do to the state (`exec_next_cases`), one with an internal use only
answers: every operation that does more has one agent, and it is not the engine itself (log 29). -/
theorem exec_of_internal {i : Instr} {s t : State} (hi : .internal ∈ i.agents)
    (he : exec i s = .next t) : ∃ r, t = s.respond r := by
  have only_agent {a : Agent} (h : i.agents = [a]) : a = .internal :=
    (List.mem_singleton.mp (h ▸ hi)).symm
  rcases exec_next_cases he with
    ⟨_, _, answered⟩ | ⟨_, rfl, _⟩ | ⟨rfl, _⟩ | ⟨_, _, rfl, _⟩ | ⟨_, _, starts, _⟩ | ⟨_, rfl, _⟩ |
    ⟨_, rfl, _⟩ | ⟨rfl, _⟩
  · exact answered
  · cases only_agent rfl
  · cases only_agent rfl
  · cases only_agent rfl
  · cases only_agent (agents_of_startsQuery starts)
  · cases only_agent rfl
  · cases only_agent rfl
  · cases only_agent rfl

/-- Settles O60: the refusal of another agent, the agent column, and `exec_of_internal`. -/
theorem noAgentInjectsAnothersOperation : Obligations.NoAgentInjectsAnothersOperation := by
  refine ⟨fun s u rest r rs i hturn hport hdecode hagent => ?_, fun _ _ => rfl, fun _ => rfl,
    fun _ => rfl, rfl, fun i s t hi he => exec_of_internal hi he⟩
  rw [step_of_presented hturn hport]
  exact runRequest_of_not_mem_agents hdecode hagent _

end Sys2Proof.Machine
